-- ==== Sys2Proof/Word.lean ====
section
/-! DEFINITION. The bit widths of the hardware (00_scope.md R6; 10_state.md). Everything here is a plain bit vector. -/

namespace Sys2Proof

/-- A `u8` of the spec: a register byte, a VRAM byte, the data of a transaction. -/
abbrev Byte := BitVec 8

/-- A `u16`: an extent, a pitch, a count, a transparency key (10_state.md R30..R32, R36, R43). -/
abbrev Word16 := BitVec 16

/-- A `u24`: a VRAM byte address, an aperture offset (10_state.md R33, R42; 30_encoding.md R90). -/
abbrev Addr := BitVec 24

/-- The 40-bit transaction word `T` (30_encoding.md R90). -/
abbrev Txn := BitVec 40

end Sys2Proof
end

