-- ==== Sys2Proof/Config.lean ====
section
/-! DEFINITION. The implementation parameters of 00_scope.md R5: as plain data with the defaults the spec gives, and as
constants without a body where it gives none (`CAP.chip_id`, `CAP.depths`, `CAP.truecolor`, `PORTMAP`), with what else the
spec leaves open (the base DAC state byte, two-bit cursor pixels). -/

namespace Sys2Proof

/-- The chip variants the source names (00_scope.md R1, R5). -/
inductive Variant where
  | gd5428 | gd5430 | gd5446
  deriving DecidableEq, Repr, Inhabited

/-- `CAP.cursor_size`: the cursor bitmap is 32x32 or 64x64 (42_cursor_overlay.md R197). -/
inductive CursorSize where
  | px32 | px64
  deriving DecidableEq, Repr

/-- `CURSOR_BPP`: one or two bits per cursor pixel (00_scope.md R5, 42_cursor_overlay.md R198). -/
inductive CursorDepth where
  | one | two
  deriving DecidableEq, Repr

/-- What a two-bit cursor pixel code can mean (42_cursor_overlay.md R198: "transparent, inverted, background,
foreground"). -/
inductive CursorCode where
  | transparent | inverted | background | foreground
  deriving DecidableEq, Repr, Inhabited

/-- The logical registers that follow the stored-byte template (40_register_file_bank.md R128; 42_cursor_overlay.md R194,
R195; 43_blt_registers.md R210..R229). -/
inductive StoredReg where
  | seqExtMode | seqScratch1 | seqScratch2 | seqScratch3
  | seqVclkNum0 | seqVclkNum1 | seqVclkNum2 | seqVclkNum3
  | seqVclkDenom0 | seqVclkDenom1 | seqVclkDenom2 | seqVclkDenom3
  | seqCursorAttr | seqCursorAddr
  | gcBg0 | gcFg0 | gcModeExt | gcBg1 | gcFg1
  | crtcExt19 | crtcExt1A | crtcExt1B
  | bankRd | bankWr
  | bltWidthLo | bltWidthHi | bltHeightLo | bltHeightHi
  | bltDpitchLo | bltDpitchHi | bltSpitchLo | bltSpitchHi
  | bltDest0 | bltDest1 | bltDest2 | bltSrc0 | bltSrc1 | bltSrc2
  | bltMode | bltRop | bltTcolLo | bltTcolHi | bltTmaskLo | bltTmaskHi
  deriving DecidableEq, Repr

/-- The logical registers, which the `PROTECTED` predicate ranges over (00_scope.md R5, R9; 40_register_file_bank.md R121):
every register and port with a row. The apertures are not registers, and a write to an unassigned index is discarded
anyway. -/
inductive Reg where
  | stored (r : StoredReg)
  | seqLock | seqCursorX | seqCursorY
  | crtcId
  | bltStatus | bltData
  | dacMask | dacIndexR | dacIndexW | dacData | dacOverlay
  deriving DecidableEq, Repr

/-- The capability table `CAP` of one variant (00_scope.md R5; 60_exceptions.md R333). -/
structure Capability where
  /-- `chip_id`. -/
  chipId : Byte
  /-- `rops`: the raster-operation codes the variant implements. -/
  rops : List Byte
  /-- `depths`: the display depths the variant supports, in bits per pixel. -/
  depths : List Nat
  /-- `cursor_size`. -/
  cursorSize : CursorSize
  /-- `truecolor`. -/
  truecolor : Bool
  deriving DecidableEq, Repr

/-- The part of a variant's capability table that rules read and that R5 gives a default. -/
structure CapRow where
  /-- `CAP.rops`. -/
  rops : List Byte
  /-- `CAP.cursor_size`. -/
  cursorSize : CursorSize
  deriving DecidableEq, Repr

/-- The capability rows, one for each variant (00_scope.md R5: "capability table selected by `VARIANT`"). -/
structure CapTable where
  gd5428 : CapRow
  gd5430 : CapRow
  gd5446 : CapRow
  deriving DecidableEq, Repr

/-- The row of a variant. -/
def CapTable.row (t : CapTable) : Variant → CapRow
  | .gd5428 => t.gd5428
  | .gd5430 => t.gd5430
  | .gd5446 => t.gd5446

/-- Where a host access goes, before the platform has decoded it: an I/O port or a memory address (00_scope.md R5
`PORTMAP`; 20_memory.md R65). -/
inductive HostPlace where
  | ioPort (number : Nat)
  | memory (address : Nat)
  deriving DecidableEq, Repr

/-- The parameters the rules take (00_scope.md R5) that are data; `Config.capability` adds those without a default, and
`PORTMAP` is `Config.portMap`. -/
structure Config where
  /-- `VARIANT`. -/
  variant : Variant
  /-- `CAP`, the rows of the three variants. -/
  capTable : CapTable
  /-- `CURSOR_BPP`. -/
  cursorBpp : CursorDepth
  /-- `VRAM_SIZE`, in bytes. -/
  vramSize : Nat
  /-- `HDAC_CYCLE`. -/
  hdacCycle : Nat
  /-- `DAC_COMP_MASK`. -/
  dacCompMask : Byte
  /-- `W_MASK`. -/
  wMask : Word16
  /-- `H_MASK`. -/
  hMask : Word16
  /-- `P_MASK`. -/
  pMask : Word16
  /-- `A_MASK`. -/
  aMask : Addr
  /-- `UNLOCK_MASK`. -/
  unlockMask : Byte
  /-- `UNLOCK_KEY`. -/
  unlockKey : Byte
  /-- `LOCK_READ_UNLOCKED`. -/
  lockReadUnlocked : Byte
  /-- `LOCK_READ_LOCKED`. -/
  lockReadLocked : Byte
  /-- `UNASSIGNED_READ`. -/
  unassignedRead : Byte
  /-- `PROTECTED`, as the list of the protected registers. -/
  protectedRegs : List Reg
  /-- `N_SCRATCH`, the number of scratch registers. -/
  nScratch : Nat
  /-- `N_VCLK`, the number of clock slots. -/
  nVclk : Nat
  /-- `VCLK_RESET[slot]`, the reset values of a slot's numerator and denominator bytes (10_state.md R15). A slot beyond the
  list has (0x00, 0x00). -/
  vclkReset : List (Byte × Byte)
  deriving DecidableEq, Repr

/-- The sixteen codes of the raster-operation table (30_encoding.md R102). -/
def Config.allRops : List Byte :=
  [0x00, 0x05, 0x06, 0x09, 0x0B, 0x0D, 0x0E, 0x50, 0x59, 0x6D, 0x90, 0x95, 0xAD, 0xD0, 0xD6, 0xDA]

/-- The default `PROTECTED` table (40_register_file_bank.md R121): every register of the table marked "yes", which is
all but `SEQ.LOCK`, `GC.BG0`, `GC.FG0`, `CRTC.ID`, `BLT.DATA` and the DAC ports. -/
def Config.defaultProtected : List Reg :=
  [.stored .seqExtMode, .stored .seqScratch1, .stored .seqScratch2, .stored .seqScratch3,
   .stored .seqVclkNum0, .stored .seqVclkNum1, .stored .seqVclkNum2, .stored .seqVclkNum3,
   .stored .seqVclkDenom0, .stored .seqVclkDenom1, .stored .seqVclkDenom2, .stored .seqVclkDenom3,
   .seqCursorX, .seqCursorY, .stored .seqCursorAttr, .stored .seqCursorAddr] ++
  [.stored .gcModeExt, .stored .gcBg1, .stored .gcFg1,
   .stored .crtcExt19, .stored .crtcExt1A, .stored .crtcExt1B,
   .stored .bankRd, .stored .bankWr] ++
  [.stored .bltWidthLo, .stored .bltWidthHi, .stored .bltHeightLo, .stored .bltHeightHi,
   .stored .bltDpitchLo, .stored .bltDpitchHi, .stored .bltSpitchLo, .stored .bltSpitchHi,
   .stored .bltDest0, .stored .bltDest1, .stored .bltDest2,
   .stored .bltSrc0, .stored .bltSrc1, .stored .bltSrc2,
   .stored .bltMode, .stored .bltRop, .stored .bltTcolLo, .stored .bltTcolHi,
   .stored .bltTmaskLo, .stored .bltTmaskHi, .bltStatus]

/-- The default capability row, of every variant: all sixteen raster operations, a 32-pixel cursor (00_scope.md R5; D30: the
contents per variant are not in the source). -/
def CapRow.default : CapRow where
  rops := Config.allRops
  cursorSize := .px32

/-- The default of every parameter that is data (00_scope.md R5). `vclkReset` has none in the spec, which leaves it OPEN:
DESIGN CHOICE the value of its vectors, unsafe, notes/assumptions/9.md. -/
def Config.default : Config where
  variant := .gd5430
  capTable := { gd5428 := CapRow.default, gd5430 := CapRow.default, gd5446 := CapRow.default }
  cursorBpp := .one
  vramSize := 0x200000
  hdacCycle := 4
  dacCompMask := 0x3F
  wMask := 0xFFFF
  hMask := 0xFFFF
  pMask := 0xFFFF
  aMask := 0xFFFFFF
  unlockMask := 0x17
  unlockKey := 0x12
  lockReadUnlocked := 0x12
  lockReadLocked := 0x0F
  unassignedRead := 0xFF
  protectedRegs := Config.defaultProtected
  nScratch := 3
  nVclk := 4
  vclkReset := []

/-- A configuration the rules make sense for: there is VRAM, the hidden-DAC cycle has a length (10_state.md R21), and
`SEQ.LOCK` is writable while locked (40_register_file_bank.md R121). -/
def Config.wf (c : Config) : Bool :=
  decide (0 < c.vramSize) && decide (0 < c.hdacCycle) && !c.protectedRegs.contains .seqLock

/-- `CAP.chip_id`, OPEN (00_scope.md R5, 40_register_file_bank.md R145, D30): a constant without a body, one byte for
each variant. -/
opaque Config.chipId : Variant → Byte

/-- `CAP.depths`, OPEN (00_scope.md R5 gives no default; N11 of 91_not_in_source.md): a constant without a body. No rule of
the spec reads it; the external display mode may (60_exceptions.md R333). -/
opaque Config.capDepths : Variant → List Nat

/-- `CAP.truecolor`, OPEN as `CAP.depths`: a constant without a body. -/
opaque Config.capTruecolor : Variant → Bool

/-- `PORTMAP`, OPEN (00_scope.md R5, D3): the platform's mapping of host I/O ports and memory ranges onto the spaces of
30_encoding.md R91, a constant without a body. "No rule of this spec depends on it". -/
opaque Config.portMap : HostPlace → Option (BitVec 4)

/-- `CAP`, the capability table that `VARIANT` selects (00_scope.md R5). -/
def Config.capability (c : Config) : Capability where
  chipId := Config.chipId c.variant
  rops := (c.capTable.row c.variant).rops
  depths := Config.capDepths c.variant
  cursorSize := (c.capTable.row c.variant).cursorSize
  truecolor := Config.capTruecolor c.variant

/-- `CAP.rops` of the variant. -/
def Config.rops (c : Config) : List Byte := c.capability.rops

/-- `CAP.cursor_size` of the variant. -/
def Config.cursorSize (c : Config) : CursorSize := c.capability.cursorSize

/-- The base device's DAC state byte, which `R DAC.INDEX_R` returns and the spec does not model (41_hidden_dac.md R181,
93_implementation_defined.md U8: a draw per read). The argument is the number of the draw. -/
opaque Config.dacStateByte : Nat → Byte

/-- The parameter function `CursorPixel2` (42_cursor_overlay.md R198, U10): the code of one pixel of a two-bit cursor,
from VRAM (its listed cells and its size), the bitmap's base address, the bitmap's side in pixels and the pixel's column
and row. The plane layout and the coding are not in the source, so it has no body. -/
opaque Config.cursorPixel2 :
  List (Nat × Byte) → (vramSize base side column row : Nat) → CursorCode

end Sys2Proof
end

