-- ==== Sys2Proof/Machine/State.lean ====
section
/-! DEFINITION. The state: the five records and VRAM of 10_state.md R10, field by field, and the model's own fields
(parameters, pending host events, the last answer, a counter of free values), with the machine after power-on. Plain data
throughout. -/

namespace Sys2Proof.Machine

/-- The register file and bank controller record `rf` (10_state.md R12..R19). -/
structure RegFile where
  /-- `rf.lock_reg` (R12). -/
  lockReg : Byte
  /-- `rf.seq_ext_mode` (R13). -/
  seqExtMode : Byte
  /-- `rf.scratch[0 .. N_SCRATCH-1]`, the registers `SEQ.SCRATCH1` and up (R14). -/
  scratch : List Byte
  /-- `rf.vclk_num[0 .. N_VCLK-1]` (R15). -/
  vclkNum : List Byte
  /-- `rf.vclk_denom[0 .. N_VCLK-1]` (R15). -/
  vclkDenom : List Byte
  /-- `rf.gc_mode_ext` (R16). -/
  gcModeExt : Byte
  /-- `rf.gc_bank[0]`, the bank of aperture reads (R17). -/
  bankRd : Byte
  /-- `rf.gc_bank[1]`, the bank of aperture writes (R17). -/
  bankWr : Byte
  /-- `rf.bg[0]` (R18). -/
  bg0 : Byte
  /-- `rf.bg[1]`, the source's `gr10` (R18). -/
  bg1 : Byte
  /-- `rf.fg[0]` (R18). -/
  fg0 : Byte
  /-- `rf.fg[1]`, the source's `gr11` (R18). -/
  fg1 : Byte
  /-- `rf.crtc_ext[0]` (R19). -/
  crtcExt19 : Byte
  /-- `rf.crtc_ext[1]` (R19). -/
  crtcExt1A : Byte
  /-- `rf.crtc_ext[2]` (R19). -/
  crtcExt1B : Byte
  deriving DecidableEq, Repr

/-- `hdac.mode`: NORMAL (0) or HIDDEN (1), which also names the two palettes (10_state.md R20, 41_hidden_dac.md R182). -/
inductive DacMode where
  | normal | hidden
  deriving DecidableEq, Repr

/-- The hidden DAC record `hdac` (10_state.md R20, R21). -/
structure HiddenDac where
  /-- `hdac.mode` (R20). -/
  mode : DacMode
  /-- `hdac.phase`, `0 .. HDAC_CYCLE-1` (R21). -/
  phase : Nat
  deriving DecidableEq, Repr

/-- A component counter's value: 0 = red, 1 = green, 2 = blue (10_state.md R22). -/
inductive Component where
  | red | green | blue
  deriving DecidableEq, Repr

/-- One palette entry, its three components (10_state.md R22, R23). -/
structure Rgb where
  red : Byte
  green : Byte
  blue : Byte
  deriving DecidableEq, Repr

/-- The baseline DAC record `dac` (10_state.md R22). -/
structure BaseDac where
  /-- `dac.pel_mask`. -/
  pelMask : Byte
  /-- `dac.write_index`. -/
  writeIndex : Byte
  /-- `dac.read_index`. -/
  readIndex : Byte
  /-- `dac.wcomp`. -/
  wcomp : Component
  /-- `dac.rcomp`. -/
  rcomp : Component
  /-- `dac.palette[0..255]`. -/
  palette : Vector Rgb 256
  deriving DecidableEq, Repr

/-- The cursor record `cur` (10_state.md R23). -/
structure Cursor where
  /-- `cur.x`, 11 bits. -/
  x : BitVec 11
  /-- `cur.y`, 11 bits. -/
  y : BitVec 11
  /-- `cur.addr_reg`. -/
  addrReg : Byte
  /-- `cur.attr`. -/
  attr : Byte
  /-- `cur.ext_palette[0..15]`, also the hidden palette of the DAC (41_hidden_dac.md R170). -/
  extPalette : Vector Rgb 16
  deriving DecidableEq, Repr

/-- `blt.fsm` (10_state.md R40). -/
inductive BltFsm where
  | idle | armed | xferVram | xferSys
  deriving DecidableEq, Repr

/-- The BitBLT record `blt` (10_state.md R30..R44). -/
structure Blt where
  /-- `blt.width`, in bytes (R30). -/
  width : Word16
  /-- `blt.height`, in rows (R31). -/
  height : Word16
  /-- `blt.dest_pitch` (R32). -/
  destPitch : Word16
  /-- `blt.source_pitch` (R32). -/
  sourcePitch : Word16
  /-- `blt.dest` (R33). -/
  dest : Addr
  /-- `blt.source` (R33). -/
  source : Addr
  /-- `blt.mode` (R34; bits 30_encoding.md R100). -/
  mode : Byte
  /-- `blt.rop` (R35). -/
  rop : Byte
  /-- `blt.trans_colour` (R36). -/
  transColour : Word16
  /-- `blt.trans_colour_mask` (R36). -/
  transColourMask : Word16
  /-- `blt.fsm` (R40). -/
  fsm : BltFsm
  /-- `blt.source_current` (R42). -/
  sourceCurrent : Addr
  /-- `blt.dest_current` (R42). -/
  destCurrent : Addr
  /-- `blt.pixel_count` (R43). -/
  pixelCount : Word16
  /-- `blt.scan_count` (R43). -/
  scanCount : Word16
  /-- `blt.system_buffer` (R44). -/
  systemBuffer : BitVec 32
  /-- `blt.system_count` (R44). -/
  systemCount : Byte
  deriving DecidableEq, Repr

/-- VRAM (20_memory.md R60) as the list of its bytes that differ from what an unlisted byte reads as, by strictly rising
address. -/
structure Memory where
  cells : List Host.Cell
  deriving DecidableEq, Repr

/-- What a VRAM byte that nothing has written reads as. DESIGN CHOICE, unsafe (93_implementation_defined.md U9 leaves it
open; 95_test_vectors.md takes 0x00): notes/assumptions/7.md. -/
def Memory.unlisted : Byte := 0x00

/-- The model's host interface: what the outside can do to the block between two steps. A transaction word
(30_encoding.md R90), or the platform's reset of the device (70_reset_and_hazards.md R341). -/
inductive HostEvent where
  | txn (word : Txn)
  | reset
  deriving DecidableEq, Repr

/-- The chip state (10_state.md R10) and the model's own fields. -/
structure State where
  /-- The register file and bank controller. -/
  rf : RegFile
  /-- The hidden DAC state machine. -/
  hdac : HiddenDac
  /-- The baseline DAC the hidden DAC multiplexes. -/
  dac : BaseDac
  /-- The hardware cursor and the extended palette. -/
  cur : Cursor
  /-- The BitBLT engine. -/
  blt : Blt
  /-- The framebuffer. -/
  vram : Memory
  /-- The model's: the parameters of 00_scope.md R5. No step writes them. -/
  cfg : Config
  /-- The model's: the host events not yet taken, oldest first. -/
  pending : List HostEvent
  /-- The model's: the byte the last transaction returned to the host, if it was a read (00_scope.md R7). -/
  answer : Option Byte
  /-- The model's: how many free bytes `R DAC.INDEX_R` has drawn (93_implementation_defined.md U8). -/
  dacDraws : Nat
  deriving DecidableEq, Repr

/-- Why a step could stop with a fault: never. The hardware raises no exception for any transaction in any state
(60_exceptions.md R320), so there is no constructor. Safe: nothing is hidden behind a fault. -/
inductive Fault where
  deriving DecidableEq, Repr

/-- Why a step could be refused. -/
inductive Refusal where
  /-- An instruction without a meaning in `exec`. Raised by an arm of `exec` only; every instruction has a meaning, so no
  arm raises it. Safe. -/
  | notModelled (mnemonic : String)
  deriving DecidableEq, Repr

/-- `rf` after reset (10_state.md R51), with the scratch registers and clock slots the parameters count (R14, R15); the clock
bytes are the parameter `VCLK_RESET`. -/
def RegFile.reset (c : Config) : RegFile where
  lockReg := 0
  seqExtMode := 0
  scratch := List.replicate c.nScratch 0
  vclkNum := (List.range c.nVclk).map fun k => (c.vclkReset.getD k (0, 0)).1
  vclkDenom := (List.range c.nVclk).map fun k => (c.vclkReset.getD k (0, 0)).2
  gcModeExt := 0
  bankRd := 0
  bankWr := 0
  bg0 := 0
  bg1 := 0
  fg0 := 0
  fg1 := 0
  crtcExt19 := 0
  crtcExt1A := 0
  crtcExt1B := 0

/-- `hdac` after reset (10_state.md R51). -/
def HiddenDac.reset : HiddenDac where
  mode := .normal
  phase := 0

/-- A palette entry of three zero bytes. -/
def Rgb.zero : Rgb where
  red := 0
  green := 0
  blue := 0

/-- `dac` after reset (10_state.md R51); reset does not touch the palette (70_reset_and_hazards.md R340), so it is an
argument. -/
def BaseDac.reset (palette : Vector Rgb 256) : BaseDac where
  pelMask := 0xFF
  writeIndex := 0
  readIndex := 0
  wcomp := .red
  rcomp := .red
  palette := palette

/-- `cur` after reset (10_state.md R51). -/
def Cursor.reset : Cursor where
  x := 0
  y := 0
  addrReg := 0
  attr := 0
  extPalette := Vector.replicate 16 Rgb.zero

/-- `blt` after reset (10_state.md R51). -/
def Blt.reset : Blt where
  width := 0
  height := 0
  destPitch := 0
  sourcePitch := 0
  dest := 0
  source := 0
  mode := 0
  rop := 0
  transColour := 0
  transColourMask := 0
  fsm := .idle
  sourceCurrent := 0
  destCurrent := 0
  pixelCount := 0
  scanCount := 0
  systemBuffer := 0
  systemCount := 0

/-- The machine after power-on (10_state.md R51, 70_reset_and_hazards.md R340, R341), with the default parameters and no
host event pending. VRAM and the base palette are unspecified at power-on: DESIGN CHOICE, every byte 0x00, unsafe,
notes/assumptions/7.md and 8.md. -/
def State.reset : State where
  rf := RegFile.reset Config.default
  hdac := HiddenDac.reset
  dac := BaseDac.reset (Vector.replicate 256 Rgb.zero)
  cur := Cursor.reset
  blt := Blt.reset
  vram := { cells := [] }
  cfg := Config.default
  pending := []
  answer := none
  dacDraws := 0

end Sys2Proof.Machine
end

