-- ==== Sys2Proof/Machine/Flags.lean ====
section
/-! DEFINITION. The flags of the hardware, all derived from the state and none stored: the lock state (10_state.md R12),
`busy` and `progress` (R41), the lock gate (40_register_file_bank.md R120), the bits of `blt.mode` (30_encoding.md R100)
and the two register bytes that read as flags (R123, R231). -/

namespace Sys2Proof.Machine

/-- `unlocked(s)` (10_state.md R12, 60_exceptions.md R327). -/
def unlocked (s : State) : Bool := s.rf.lockReg == s.cfg.unlockKey

/-- `PROTECTED(r)` (00_scope.md R5, 40_register_file_bank.md R121). -/
def isProtected (c : Config) (r : Reg) : Bool := c.protectedRegs.contains r

/-- The protected-write gate (40_register_file_bank.md R120): a write to `r` takes effect. -/
def writeEnabled (s : State) (r : Reg) : Bool := !isProtected s.cfg r || unlocked s

/-- `busy(s)` (10_state.md R41). -/
def busy (s : State) : Bool := s.blt.fsm != .idle

/-- `progress(s)` (10_state.md R41). -/
def progress (s : State) : Bool := busy s

/-- The byte `R SEQ.LOCK` returns (40_register_file_bank.md R123). -/
def lockByte (s : State) : Byte := if unlocked s then s.cfg.lockReadUnlocked else s.cfg.lockReadLocked

/-- The byte `R BLT.STATUS` returns: bit 3 PROGRESS, bit 0 BUSY, the rest 0 (43_blt_registers.md R231,
30_encoding.md R101). -/
def statusByte (s : State) : Byte :=
  0#4 ++ BitVec.ofBool (progress s) ++ 0#2 ++ BitVec.ofBool (busy s)

/-- `mode[0]`, DIR (30_encoding.md R100). -/
def modeReverse (mode : Byte) : Bool := mode.getLsbD 0

/-- `mode[2]`, SYS_SRC (30_encoding.md R100). -/
def modeSysSrc (mode : Byte) : Bool := mode.getLsbD 2

/-- `mode[3]`, TRANSP (30_encoding.md R100). -/
def modeTransp (mode : Byte) : Bool := mode.getLsbD 3

/-- `mode[4]`, EXP16 (30_encoding.md R100). -/
def modeExp16 (mode : Byte) : Bool := mode.getLsbD 4

/-- `mode[6]`, PATTERN (30_encoding.md R100). -/
def modePattern (mode : Byte) : Bool := mode.getLsbD 6

/-- `mode[7]`, EXPAND (30_encoding.md R100). -/
def modeExpand (mode : Byte) : Bool := mode.getLsbD 7

/-- `data[1]` of a write to `BLT.STATUS`: START (30_encoding.md R101). -/
def statusStart (data : Byte) : Bool := data.getLsbD 1

/-- `dir`: +1 forward, -1 reverse (00_scope.md R9, 44_blt_engine.md header). -/
def dirOf (mode : Byte) : Int := if modeReverse mode then -1 else 1

/-- `bpp`: bytes per pixel of colour expansion and pattern (44_blt_engine.md header). -/
def bppOf (mode : Byte) : Nat := if modeExp16 mode then 2 else 1

/-- The transparency test of 44_blt_engine.md R262 on the source operand byte: the byte operation skips its write. -/
def transparent (b : Blt) (sb : Byte) : Bool :=
  modeTransp b.mode &&
    (sb &&& b.transColourMask.extractLsb' 0 8 == b.transColour.extractLsb' 0 8 &&& b.transColourMask.extractLsb' 0 8)

end Sys2Proof.Machine
end

