-- ==== Sys2Proof/Machine/Ops.lean ====
section
/-! DEFINITION. The named operations the meanings share: VRAM (20_memory.md R60..R64), the byte registers of multi-byte
quantities (R67), the stored-byte template behind the lock gate (40_register_file_bank.md R120, R128), the answer to the
host, and the device reset (70_reset_and_hazards.md R340). The hardware takes no exception and returns from none
(60_exceptions.md R320, R324, R325), so there is no operation for either. -/

namespace Sys2Proof.Machine

/-- What a meaning answers. -/
abbrev Result := Host.Outcome State Fault Refusal

/-! ### VRAM -/

/-- The byte a list of cells holds at `a`. -/
def lookupCell (a : Nat) : List Host.Cell → Byte
  | [] => Memory.unlisted
  | (k, v) :: rest => if k = a then v else lookupCell a rest

/-- The cells without any at address `a`. -/
def eraseCell (a : Nat) : List Host.Cell → List Host.Cell
  | [] => []
  | (k, w) :: rest => if k = a then eraseCell a rest else (k, w) :: eraseCell a rest

/-- The cells with one more, before the first of a higher address. -/
def placeCell (a : Nat) (v : Byte) : List Host.Cell → List Host.Cell
  | [] => [(a, v)]
  | (k, w) :: rest => if a < k then (a, v) :: (k, w) :: rest else (k, w) :: placeCell a v rest

/-- The cells after the byte at `a` becomes `v`: none at `a` where `v` is what an unlisted byte reads as. -/
def insertCell (a : Nat) (v : Byte) (cells : List Host.Cell) : List Host.Cell :=
  if v = Memory.unlisted then eraseCell a cells else placeCell a v (eraseCell a cells)

/-- The cells are in canonical form with addresses in `lo .. size-1`: strictly rising, none holding the unlisted byte. -/
def cellsWf (lo size : Nat) : List Host.Cell → Bool
  | [] => true
  | (k, v) :: rest => decide (lo ≤ k) && decide (k < size) && v != Memory.unlisted && cellsWf (k + 1) size rest

/-- The byte at index `a` of the array. -/
def Memory.read (m : Memory) (a : Nat) : Byte := lookupCell a m.cells

/-- The array with the byte at index `a` replaced. -/
def Memory.write (m : Memory) (a : Nat) (v : Byte) : Memory := { cells := insertCell a v m.cells }

/-- The array of `size` bytes is in canonical form. -/
def Memory.wf (size : Nat) (m : Memory) : Bool := cellsWf 0 size m.cells

/-- `MemRead(a, 1)` (20_memory.md R62): an address beyond VRAM wraps. -/
def memRead (s : State) (a : Nat) : Byte := s.vram.read (a % s.cfg.vramSize)

/-- `MemWrite(a, 1, v)` (20_memory.md R63). -/
def memWrite (s : State) (a : Nat) (v : Byte) : State :=
  { s with vram := s.vram.write (a % s.cfg.vramSize) v }

/-- The effective address of the banked aperture (20_memory.md R61): `(bank << 16) | (o & 0xFFFF)`, a `u24`. -/
def bankedAddr (bank : Byte) (o : Addr) : Addr := (bank.setWidth 24 <<< 16) ||| (o &&& 0x00FFFF)

/-! ### Byte registers of multi-byte quantities (20_memory.md R67, 30_encoding.md R110) -/

/-- Bits [7:0] of a `u16`. -/
def lowByte (v : Word16) : Byte := v.extractLsb' 0 8

/-- Bits [15:8] of a `u16`. -/
def highByte (v : Word16) : Byte := v.extractLsb' 8 8

/-- A `u16` with bits [7:0] replaced. -/
def setLowByte (v : Word16) (b : Byte) : Word16 := highByte v ++ b

/-- A `u16` with bits [15:8] replaced. -/
def setHighByte (v : Word16) (b : Byte) : Word16 := b ++ lowByte v

/-- Bits [7:0] of a `u24`. -/
def addrByte0 (v : Addr) : Byte := v.extractLsb' 0 8

/-- Bits [15:8] of a `u24`. -/
def addrByte1 (v : Addr) : Byte := v.extractLsb' 8 8

/-- Bits [23:16] of a `u24`. -/
def addrByte2 (v : Addr) : Byte := v.extractLsb' 16 8

/-- A `u24` with bits [7:0] replaced. -/
def setAddrByte0 (v : Addr) (b : Byte) : Addr := addrByte2 v ++ addrByte1 v ++ b

/-- A `u24` with bits [15:8] replaced. -/
def setAddrByte1 (v : Addr) (b : Byte) : Addr := addrByte2 v ++ b ++ addrByte0 v

/-- A `u24` with bits [23:16] replaced. -/
def setAddrByte2 (v : Addr) (b : Byte) : Addr := b ++ addrByte1 v ++ addrByte0 v

/-! ### The stored-byte template (40_register_file_bank.md R128) -/

/-- The state field (or slice) `f` a stored-byte register is bound to (30_encoding.md R92, R94, R96, R98, R99). -/
def storedByte (r : StoredReg) (s : State) : Byte :=
  match r with
  | .seqExtMode => s.rf.seqExtMode
  | .seqScratch1 => s.rf.scratch.getD 0 0
  | .seqScratch2 => s.rf.scratch.getD 1 0
  | .seqScratch3 => s.rf.scratch.getD 2 0
  | .seqVclkNum0 => s.rf.vclkNum.getD 0 0
  | .seqVclkNum1 => s.rf.vclkNum.getD 1 0
  | .seqVclkNum2 => s.rf.vclkNum.getD 2 0
  | .seqVclkNum3 => s.rf.vclkNum.getD 3 0
  | .seqVclkDenom0 => s.rf.vclkDenom.getD 0 0
  | .seqVclkDenom1 => s.rf.vclkDenom.getD 1 0
  | .seqVclkDenom2 => s.rf.vclkDenom.getD 2 0
  | .seqVclkDenom3 => s.rf.vclkDenom.getD 3 0
  | .seqCursorAttr => s.cur.attr
  | .seqCursorAddr => s.cur.addrReg
  | .gcBg0 => s.rf.bg0
  | .gcFg0 => s.rf.fg0
  | .gcModeExt => s.rf.gcModeExt
  | .gcBg1 => s.rf.bg1
  | .gcFg1 => s.rf.fg1
  | .crtcExt19 => s.rf.crtcExt19
  | .crtcExt1A => s.rf.crtcExt1A
  | .crtcExt1B => s.rf.crtcExt1B
  | .bankRd => s.rf.bankRd
  | .bankWr => s.rf.bankWr
  | .bltWidthLo => lowByte s.blt.width
  | .bltWidthHi => highByte s.blt.width
  | .bltHeightLo => lowByte s.blt.height
  | .bltHeightHi => highByte s.blt.height
  | .bltDpitchLo => lowByte s.blt.destPitch
  | .bltDpitchHi => highByte s.blt.destPitch
  | .bltSpitchLo => lowByte s.blt.sourcePitch
  | .bltSpitchHi => highByte s.blt.sourcePitch
  | .bltDest0 => addrByte0 s.blt.dest
  | .bltDest1 => addrByte1 s.blt.dest
  | .bltDest2 => addrByte2 s.blt.dest
  | .bltSrc0 => addrByte0 s.blt.source
  | .bltSrc1 => addrByte1 s.blt.source
  | .bltSrc2 => addrByte2 s.blt.source
  | .bltMode => s.blt.mode
  | .bltRop => s.blt.rop
  | .bltTcolLo => lowByte s.blt.transColour
  | .bltTcolHi => highByte s.blt.transColour
  | .bltTmaskLo => lowByte s.blt.transColourMask
  | .bltTmaskHi => highByte s.blt.transColourMask

/-- The state with the field (or slice) of a stored-byte register replaced, and nothing else changed. -/
def putStored (r : StoredReg) (v : Byte) (s : State) : State :=
  match r with
  | .seqExtMode => { s with rf := { s.rf with seqExtMode := v } }
  | .seqScratch1 => { s with rf := { s.rf with scratch := s.rf.scratch.set 0 v } }
  | .seqScratch2 => { s with rf := { s.rf with scratch := s.rf.scratch.set 1 v } }
  | .seqScratch3 => { s with rf := { s.rf with scratch := s.rf.scratch.set 2 v } }
  | .seqVclkNum0 => { s with rf := { s.rf with vclkNum := s.rf.vclkNum.set 0 v } }
  | .seqVclkNum1 => { s with rf := { s.rf with vclkNum := s.rf.vclkNum.set 1 v } }
  | .seqVclkNum2 => { s with rf := { s.rf with vclkNum := s.rf.vclkNum.set 2 v } }
  | .seqVclkNum3 => { s with rf := { s.rf with vclkNum := s.rf.vclkNum.set 3 v } }
  | .seqVclkDenom0 => { s with rf := { s.rf with vclkDenom := s.rf.vclkDenom.set 0 v } }
  | .seqVclkDenom1 => { s with rf := { s.rf with vclkDenom := s.rf.vclkDenom.set 1 v } }
  | .seqVclkDenom2 => { s with rf := { s.rf with vclkDenom := s.rf.vclkDenom.set 2 v } }
  | .seqVclkDenom3 => { s with rf := { s.rf with vclkDenom := s.rf.vclkDenom.set 3 v } }
  | .seqCursorAttr => { s with cur := { s.cur with attr := v } }
  | .seqCursorAddr => { s with cur := { s.cur with addrReg := v } }
  | .gcBg0 => { s with rf := { s.rf with bg0 := v } }
  | .gcFg0 => { s with rf := { s.rf with fg0 := v } }
  | .gcModeExt => { s with rf := { s.rf with gcModeExt := v } }
  | .gcBg1 => { s with rf := { s.rf with bg1 := v } }
  | .gcFg1 => { s with rf := { s.rf with fg1 := v } }
  | .crtcExt19 => { s with rf := { s.rf with crtcExt19 := v } }
  | .crtcExt1A => { s with rf := { s.rf with crtcExt1A := v } }
  | .crtcExt1B => { s with rf := { s.rf with crtcExt1B := v } }
  | .bankRd => { s with rf := { s.rf with bankRd := v } }
  | .bankWr => { s with rf := { s.rf with bankWr := v } }
  | .bltWidthLo => { s with blt := { s.blt with width := setLowByte s.blt.width v } }
  | .bltWidthHi => { s with blt := { s.blt with width := setHighByte s.blt.width v } }
  | .bltHeightLo => { s with blt := { s.blt with height := setLowByte s.blt.height v } }
  | .bltHeightHi => { s with blt := { s.blt with height := setHighByte s.blt.height v } }
  | .bltDpitchLo => { s with blt := { s.blt with destPitch := setLowByte s.blt.destPitch v } }
  | .bltDpitchHi => { s with blt := { s.blt with destPitch := setHighByte s.blt.destPitch v } }
  | .bltSpitchLo => { s with blt := { s.blt with sourcePitch := setLowByte s.blt.sourcePitch v } }
  | .bltSpitchHi => { s with blt := { s.blt with sourcePitch := setHighByte s.blt.sourcePitch v } }
  | .bltDest0 => { s with blt := { s.blt with dest := setAddrByte0 s.blt.dest v } }
  | .bltDest1 => { s with blt := { s.blt with dest := setAddrByte1 s.blt.dest v } }
  | .bltDest2 => { s with blt := { s.blt with dest := setAddrByte2 s.blt.dest v } }
  | .bltSrc0 => { s with blt := { s.blt with source := setAddrByte0 s.blt.source v } }
  | .bltSrc1 => { s with blt := { s.blt with source := setAddrByte1 s.blt.source v } }
  | .bltSrc2 => { s with blt := { s.blt with source := setAddrByte2 s.blt.source v } }
  | .bltMode => { s with blt := { s.blt with mode := v } }
  | .bltRop => { s with blt := { s.blt with rop := v } }
  | .bltTcolLo => { s with blt := { s.blt with transColour := setLowByte s.blt.transColour v } }
  | .bltTcolHi => { s with blt := { s.blt with transColour := setHighByte s.blt.transColour v } }
  | .bltTmaskLo => { s with blt := { s.blt with transColourMask := setLowByte s.blt.transColourMask v } }
  | .bltTmaskHi => { s with blt := { s.blt with transColourMask := setHighByte s.blt.transColourMask v } }

/-- The write mask `m` of a stored-byte register: 0xFF unless its rule names one (43_blt_registers.md R210..R223). -/
def writeMask (r : StoredReg) (c : Config) : Byte :=
  match r with
  | .seqExtMode => 0xFF
  | .seqScratch1 => 0xFF
  | .seqScratch2 => 0xFF
  | .seqScratch3 => 0xFF
  | .seqVclkNum0 => 0xFF
  | .seqVclkNum1 => 0xFF
  | .seqVclkNum2 => 0xFF
  | .seqVclkNum3 => 0xFF
  | .seqVclkDenom0 => 0xFF
  | .seqVclkDenom1 => 0xFF
  | .seqVclkDenom2 => 0xFF
  | .seqVclkDenom3 => 0xFF
  | .seqCursorAttr => 0xFF
  | .seqCursorAddr => 0xFF
  | .gcBg0 => 0xFF
  | .gcFg0 => 0xFF
  | .gcModeExt => 0xFF
  | .gcBg1 => 0xFF
  | .gcFg1 => 0xFF
  | .crtcExt19 => 0xFF
  | .crtcExt1A => 0xFF
  | .crtcExt1B => 0xFF
  | .bankRd => 0xFF
  | .bankWr => 0xFF
  | .bltWidthLo => lowByte c.wMask
  | .bltWidthHi => highByte c.wMask
  | .bltHeightLo => lowByte c.hMask
  | .bltHeightHi => highByte c.hMask
  | .bltDpitchLo => lowByte c.pMask
  | .bltDpitchHi => highByte c.pMask
  | .bltSpitchLo => lowByte c.pMask
  | .bltSpitchHi => highByte c.pMask
  | .bltDest0 => addrByte0 c.aMask
  | .bltDest1 => addrByte1 c.aMask
  | .bltDest2 => addrByte2 c.aMask
  | .bltSrc0 => addrByte0 c.aMask
  | .bltSrc1 => addrByte1 c.aMask
  | .bltSrc2 => addrByte2 c.aMask
  | .bltMode => 0xFF
  | .bltRop => 0xFF
  | .bltTcolLo => 0xFF
  | .bltTcolHi => 0xFF
  | .bltTmaskLo => 0xFF
  | .bltTmaskHi => 0xFF

/-- The parameters give the chip this register: every register but a scratch register or clock slot beyond `N_SCRATCH` or
`N_VCLK` (10_state.md R14, R15). The index of one beyond is unassigned. DEDUCED, notes/assumptions/10.md. -/
def registerPresent (r : StoredReg) (c : Config) : Bool :=
  match r with
  | .seqScratch1 => decide (0 < c.nScratch)
  | .seqScratch2 => decide (1 < c.nScratch)
  | .seqScratch3 => decide (2 < c.nScratch)
  | .seqVclkNum0 => decide (0 < c.nVclk)
  | .seqVclkNum1 => decide (1 < c.nVclk)
  | .seqVclkNum2 => decide (2 < c.nVclk)
  | .seqVclkNum3 => decide (3 < c.nVclk)
  | .seqVclkDenom0 => decide (0 < c.nVclk)
  | .seqVclkDenom1 => decide (1 < c.nVclk)
  | .seqVclkDenom2 => decide (2 < c.nVclk)
  | .seqVclkDenom3 => decide (3 < c.nVclk)
  | .seqExtMode | .seqCursorAttr | .seqCursorAddr | .gcBg0 | .gcFg0 | .gcModeExt | .gcBg1 | .gcFg1
  | .crtcExt19 | .crtcExt1A | .crtcExt1B | .bankRd | .bankWr | .bltWidthLo | .bltWidthHi | .bltHeightLo
  | .bltHeightHi | .bltDpitchLo | .bltDpitchHi | .bltSpitchLo | .bltSpitchHi | .bltDest0 | .bltDest1
  | .bltDest2 | .bltSrc0 | .bltSrc1 | .bltSrc2 | .bltMode | .bltRop | .bltTcolLo | .bltTcolHi | .bltTmaskLo
  | .bltTmaskHi => true

/-- The protected-write gate (40_register_file_bank.md R120): the write of `r` that makes `written` of `s` takes effect, or is
discarded with no state change at all. -/
def gated (r : Reg) (s written : State) : State := if writeEnabled s r then written else s

/-- `W r, data` of the template (40_register_file_bank.md R128), behind the gate (R120). -/
def writeStored (r : StoredReg) (data : Byte) (s : State) : State :=
  if registerPresent r s.cfg then gated (.stored r) s (putStored r (data &&& writeMask r s.cfg) s) else s

/-! ### The answer to the host -/

/-- `return v` (00_scope.md R7): the byte a read transaction answers. -/
def answerByte (v : Byte) (s : State) : State := { s with answer := some v }

/-- The read of an unassigned index or port (30_encoding.md R105). -/
def readUnassigned (s : State) : State := answerByte s.cfg.unassignedRead s

/-- `R r` of the template (40_register_file_bank.md R128): no state change but the answer. -/
def readStored (r : StoredReg) (s : State) : State :=
  if registerPresent r s.cfg then answerByte (storedByte r s) s else readUnassigned s

/-! ### The host -/

/-- The state as a step finds it once it has taken the oldest pending event: the rest is pending and no byte has been
answered yet. -/
def takeEvent (rest : List HostEvent) (s : State) : State := { s with pending := rest, answer := none }

/-- Reset of the device (70_reset_and_hazards.md R340, R341; values 10_state.md R51): every field of `rf`, `hdac`, `dac`
but the palette, `cur` and `blt`; VRAM and the palette keep their contents. -/
def deviceReset (s : State) : State :=
  { s with
    rf := RegFile.reset s.cfg
    hdac := HiddenDac.reset
    dac := BaseDac.reset s.dac.palette
    cur := Cursor.reset
    blt := Blt.reset }

end Sys2Proof.Machine
end

