-- ==== Sys2Proof/Machine/Aperture.lean ====
section
/-! DEFINITION. The banked and the linear aperture (40_register_file_bank.md R152, R153, R155, R156; 20_memory.md R61..R64).
Neither is gated by the lock or by the engine. -/

namespace Sys2Proof.Machine

/-- `W MEM[o]` (40_register_file_bank.md R153). -/
def execWMem (offset : Addr) (data : Byte) (s : State) : Result :=
  .next (memWrite s (bankedAddr s.rf.bankWr offset).toNat data)

/-- `R MEM[o]` (40_register_file_bank.md R152). -/
def execRMem (offset : Addr) (s : State) : Result :=
  .next (answerByte (memRead s (bankedAddr s.rf.bankRd offset).toNat) s)

/-- `W LFB[o]` (40_register_file_bank.md R156). -/
def execWLfb (offset : Addr) (data : Byte) (s : State) : Result := .next (memWrite s offset.toNat data)

/-- `R LFB[o]` (40_register_file_bank.md R155). -/
def execRLfb (offset : Addr) (s : State) : Result := .next (answerByte (memRead s offset.toNat) s)

end Sys2Proof.Machine
end

