-- ==== Sys2Proof/Machine/Bank.lean ====
section
/-! DEFINITION. The bank registers (40_register_file_bank.md R150, R151). -/

namespace Sys2Proof.Machine

/-- `W BANK.RD` (40_register_file_bank.md R150). -/
def execWBankRd (data : Byte) (s : State) : Result := .next (writeStored .bankRd data s)

/-- `R BANK.RD` (40_register_file_bank.md R150). -/
def execRBankRd (s : State) : Result := .next (readStored .bankRd s)

/-- `W BANK.WR` (40_register_file_bank.md R151). -/
def execWBankWr (data : Byte) (s : State) : Result := .next (writeStored .bankWr data s)

/-- `R BANK.WR` (40_register_file_bank.md R151). -/
def execRBankWr (s : State) : Result := .next (readStored .bankWr s)

end Sys2Proof.Machine
end

