-- ==== Sys2Proof/Machine/Operands.lean ====
section
/-! DEFINITION. The operand forms of the BitBLT engine: the address formulas (44_blt_engine.md R254) and the five source
operands of a VRAM-source transfer with their dispatch (R255..R260). -/

namespace Sys2Proof.Machine

/-- An address computed on integers and reduced `mod 2^24` (20_memory.md R67(d), 44_blt_engine.md R254). -/
def offsetAddr (base : Addr) (offset : Int) : Addr := BitVec.ofInt 24 ((base.toNat : Int) + offset)

/-- `DestAddr(y, x)` (44_blt_engine.md R254). -/
def destAddr (b : Blt) (y x : Nat) : Addr :=
  offsetAddr b.dest (dirOf b.mode * ((y * b.destPitch.toNat + x : Nat) : Int))

/-- `SrcAddr(y, x)` (44_blt_engine.md R254, R255). -/
def srcAddr (b : Blt) (y x : Nat) : Addr :=
  offsetAddr b.source (dirOf b.mode * ((y * b.sourcePitch.toNat + x : Nat) : Int))

/-- The colour byte `k` (0 low, 1 high) that a source bit selects: 1 foreground, 0 background (44_blt_engine.md R256,
R257, R259, R266). -/
def colourByte (rf : RegFile) (bit : Bool) (k : Nat) : Byte :=
  if bit then (if k = 0 then rf.fg0 else rf.fg1) else (if k = 0 then rf.bg0 else rf.bg1)

/-- Bit `7 - j` of a source byte: bit 7 is the first pixel (20_memory.md R67(c)). -/
def pixelBit (byte : Byte) (j : Nat) : Bool := byte.getLsbD (7 - j)

/-- The forms of a VRAM source operand (44_blt_engine.md R260). -/
inductive SourceForm where
  | plain | expand8 | expand16 | colourPattern | monoPattern
  deriving DecidableEq, Repr

/-- The dispatch of 44_blt_engine.md R260 on EXPAND, PATTERN and EXP16. -/
def sourceForm (mode : Byte) : SourceForm :=
  match modeExpand mode, modePattern mode with
  | false, false => .plain
  | true, false => if modeExp16 mode then .expand16 else .expand8
  | false, true => .colourPattern
  | true, true => .monoPattern

/-- The VRAM address the source operand of position `(y, x)` is read at (44_blt_engine.md R255..R259). -/
def operandAddr (b : Blt) (y x : Nat) : Addr :=
  let bpp := bppOf b.mode
  match sourceForm b.mode with
  | .plain => srcAddr b y x
  | .expand8 => srcAddr b y (x / 8)
  | .expand16 => srcAddr b y (x / 2 / 8)
  | .colourPattern => offsetAddr b.source (((y % 8) * (8 * bpp) + x % (8 * bpp) : Nat) : Int)
  | .monoPattern => offsetAddr b.source ((y % 8 : Nat) : Int)

/-- The source operand byte of position `x` made from the VRAM byte read for it (44_blt_engine.md R255..R259). -/
def operandByte (rf : RegFile) (mode : Byte) (x : Nat) (byte : Byte) : Byte :=
  match sourceForm mode with
  | .plain | .colourPattern => byte
  | .expand8 => colourByte rf (pixelBit byte (x % 8)) 0
  | .expand16 => colourByte rf (pixelBit byte (x / 2 % 8)) (x % 2)
  | .monoPattern =>
    if modeExp16 mode then colourByte rf (pixelBit byte (x / 2 % 8)) (x % 2)
    else colourByte rf (pixelBit byte (x % 8)) 0

/-- The address of `SourceOperand()` at the current position (44_blt_engine.md R260). -/
def sourceAddress (s : State) : Addr := operandAddr s.blt s.blt.scanCount.toNat s.blt.pixelCount.toNat

/-- `SourceOperand()` at the current position (44_blt_engine.md R260). -/
def sourceOperand (s : State) : Byte :=
  operandByte s.rf s.blt.mode s.blt.pixelCount.toNat (memRead s (sourceAddress s).toNat)

end Sys2Proof.Machine
end

