-- ==== Sys2Proof/Machine/Raster.lean ====
section
/-! DEFINITION. The raster operations as byte functions (45_blt_rops.md R290..R305), the default (R307) and the total
selection `Rop(code, S, D)` (R306). `S` is the source operand byte, `D` the current destination byte. -/

namespace Sys2Proof.Machine

/-- `ZERO` (45_blt_rops.md R290). -/
def rasterZero (_S _D : Byte) : Byte := 0x00

/-- `AND` (45_blt_rops.md R291). -/
def rasterAnd (S D : Byte) : Byte := S &&& D

/-- `NOP` (45_blt_rops.md R292). -/
def rasterNop (_S D : Byte) : Byte := D

/-- `SRC_AND_NOT_DST` (45_blt_rops.md R293). -/
def rasterSrcAndNotDst (S D : Byte) : Byte := S &&& ~~~D

/-- `NOT_DST` (45_blt_rops.md R294). -/
def rasterNotDst (_S D : Byte) : Byte := ~~~D

/-- `COPY` (45_blt_rops.md R295). -/
def rasterCopy (S _D : Byte) : Byte := S

/-- `ONE` (45_blt_rops.md R296). -/
def rasterOne (_S _D : Byte) : Byte := 0xFF

/-- `NOT_SRC_AND_DST` (45_blt_rops.md R297). -/
def rasterNotSrcAndDst (S D : Byte) : Byte := ~~~S &&& D

/-- `XOR` (45_blt_rops.md R298). -/
def rasterXor (S D : Byte) : Byte := S ^^^ D

/-- `OR` (45_blt_rops.md R299). -/
def rasterOr (S D : Byte) : Byte := S ||| D

/-- `NOR` (45_blt_rops.md R300). -/
def rasterNor (S D : Byte) : Byte := ~~~(S ||| D)

/-- `XNOR` (45_blt_rops.md R301). -/
def rasterXnor (S D : Byte) : Byte := ~~~(S ^^^ D)

/-- `SRC_OR_NOT_DST` (45_blt_rops.md R302). -/
def rasterSrcOrNotDst (S D : Byte) : Byte := S ||| ~~~D

/-- `NOT_SRC` (45_blt_rops.md R303). -/
def rasterNotSrc (S _D : Byte) : Byte := ~~~S

/-- `NOT_SRC_OR_DST` (45_blt_rops.md R304). -/
def rasterNotSrcOrDst (S D : Byte) : Byte := ~~~S ||| D

/-- `NAND` (45_blt_rops.md R305). -/
def rasterNand (S D : Byte) : Byte := ~~~(S &&& D)

/-- The default of every other code, and of a code absent from `CAP.rops` (45_blt_rops.md R307). -/
def rasterDefault (S _D : Byte) : Byte := S

/-- The byte function of a code's row (30_encoding.md R102). -/
def rasterOf (code : Byte) : Byte → Byte → Byte :=
  match code.toNat with
  | 0x00 => rasterZero
  | 0x05 => rasterAnd
  | 0x06 => rasterNop
  | 0x09 => rasterSrcAndNotDst
  | 0x0B => rasterNotDst
  | 0x0D => rasterCopy
  | 0x0E => rasterOne
  | 0x50 => rasterNotSrcAndDst
  | 0x59 => rasterXor
  | 0x6D => rasterOr
  | 0x90 => rasterNor
  | 0x95 => rasterXnor
  | 0xAD => rasterSrcOrNotDst
  | 0xD0 => rasterNotSrc
  | 0xD6 => rasterNotSrcOrDst
  | 0xDA => rasterNand
  | _ => rasterDefault

/-- A row's byte function where the variant implements its code, the default where it does not (45_blt_rops.md R306,
R307). -/
def rasterIn (rops : List Byte) (code : Byte) (f : Byte → Byte → Byte) : Byte → Byte → Byte :=
  if rops.contains code then f else rasterDefault

/-- `Rop(code, S, D)` (45_blt_rops.md R306). -/
def rop (rops : List Byte) (code S D : Byte) : Byte := rasterIn rops code (rasterOf code) S D

end Sys2Proof.Machine
end

