-- ==== Sys2Proof/Machine/Engine.lean ====
section
/-! DEFINITION. The BitBLT engine (44_blt_engine.md): the byte operation (R262), the advance and completion (R263, R264),
the START procedure and the VRAM-source transfer (R251..R253), and the feed of one byte of a system-source transfer
(R266). -/

namespace Sys2Proof.Machine

/-- `Commit(sb)` (44_blt_engine.md R262) under the raster operation `f`: one destination byte, read, combined and
written, or skipped as transparent. -/
def commit (f : Byte → Byte → Byte) (sb : Byte) (s : State) : State :=
  let a := s.blt.destCurrent.toNat
  if transparent s.blt sb then s else memWrite s a (f sb (memRead s a))

/-- `Complete()` (44_blt_engine.md R264). -/
def complete (b : Blt) : Blt := { b with fsm := .idle }

/-- `Advance()` (44_blt_engine.md R263) on the engine's record. -/
def advanceBlt (b : Blt) : Blt :=
  let pixel := b.pixelCount + 1
  if b.width.toNat ≤ pixel.toNat then
    let scan := b.scanCount + 1
    let row := { b with pixelCount := 0, scanCount := scan }
    if b.height.toNat ≤ scan.toNat then complete row
    else { row with
      destCurrent := offsetAddr b.dest (dirOf b.mode * ((scan.toNat * b.destPitch.toNat : Nat) : Int)) }
  else { b with pixelCount := pixel, destCurrent := offsetAddr b.destCurrent (dirOf b.mode) }

/-- `Advance()` (44_blt_engine.md R263). -/
def advance (s : State) : State := { s with blt := advanceBlt s.blt }

/-- One pass of the loop of `RunVram` (44_blt_engine.md R253) under the raster operation `f`: the source operand at the
current position, whose address `source_current` then holds (R260), the byte operation, the advance. -/
def byteOperation (f : Byte → Byte → Byte) (s : State) : State :=
  let sb := sourceOperand s
  advance (commit f sb { s with blt := { s.blt with sourceCurrent := sourceAddress s } })

/-- The raster operation the live registers select (44_blt_engine.md R262, 45_blt_rops.md R306). -/
def liveRaster (s : State) : Byte → Byte → Byte := rop s.cfg.rops s.blt.rop

/-- `RunVram()` (44_blt_engine.md R253): byte operations while `fsm = XFER_VRAM`. The first argument bounds the passes;
`w * h` of them suffice from the start of a transfer. -/
def runVram : Nat → State → State
  | 0, s => s
  | n + 1, s =>
    match s.blt.fsm with
    | .xferVram => runVram n (byteOperation (liveRaster s) s)
    | _ => s

/-- The first assignments of `BltStart()` (44_blt_engine.md R251): ARMED, with the current addresses loaded and the counts
and staging cleared. -/
def armBlt (b : Blt) : Blt :=
  { b with
    fsm := .armed
    sourceCurrent := b.source
    destCurrent := b.dest
    scanCount := 0
    pixelCount := 0
    systemBuffer := 0
    systemCount := 0 }

/-- The rest of `BltStart()`, which leaves ARMED (44_blt_engine.md R250, R251): a degenerate extent completes at once
(R252), a system source waits for data, a VRAM source runs. -/
def leaveArmed (s : State) : State :=
  if s.blt.width = 0 ∨ s.blt.height = 0 then { s with blt := { s.blt with fsm := .idle } }
  else if modeSysSrc s.blt.mode then { s with blt := { s.blt with fsm := .xferSys } }
  else
    runVram (s.blt.width.toNat * s.blt.height.toNat) { s with blt := { s.blt with fsm := .xferVram } }

/-- `BltStart()` (44_blt_engine.md R251). -/
def bltStart (s : State) : State := leaveArmed { s with blt := armBlt s.blt }

/-- The loop of `SysFeed` in colour expansion (44_blt_engine.md R266): pixel bits of the byte `b` from number `n` on, while
the transfer is still in the row `y0`. The first argument bounds the passes; 16 suffice. -/
def expandFeed (b : Byte) (y0 : Word16) : Nat → Nat → State → State
  | 0, _, s => s
  | fuel + 1, n, s =>
    let bpp := bppOf s.blt.mode
    if n < 8 * bpp ∧ s.blt.fsm = .xferSys ∧ s.blt.scanCount = y0 then
      let sb := colourByte s.rf (pixelBit b (n / bpp)) (n % bpp)
      expandFeed b y0 fuel (n + 1) (advance (commit (liveRaster s) sb s))
    else s

/-- `SysFeed(b)` (44_blt_engine.md R266): the byte is staged, makes one byte operation (plain) or up to eight pixels
(colour expansion), and is no longer counted. -/
def sysFeed (b : Byte) (s : State) : State :=
  let staged := { s with blt := { s.blt with systemBuffer := b.setWidth 32, systemCount := 1 } }
  let fed :=
    if modeExpand staged.blt.mode then expandFeed b staged.blt.scanCount 16 0 staged
    else advance (commit (liveRaster staged) b staged)
  { fed with blt := { fed.blt with systemCount := 0 } }

end Sys2Proof.Machine
end

