-- ==== Sys2Proof/Machine/BltRegs.lean ====
section
/-! DEFINITION. The BitBLT register block (43_blt_registers.md R210..R233): operand registers, STATUS with its START bit, the
data-feed port. -/

namespace Sys2Proof.Machine

/-- `W BLT.WIDTH_LO` (43_blt_registers.md R210). -/
def execWBltWidthLo (data : Byte) (s : State) : Result := .next (writeStored .bltWidthLo data s)

/-- `R BLT.WIDTH_LO` (43_blt_registers.md R210). -/
def execRBltWidthLo (s : State) : Result := .next (readStored .bltWidthLo s)

/-- `W BLT.WIDTH_HI` (43_blt_registers.md R211). -/
def execWBltWidthHi (data : Byte) (s : State) : Result := .next (writeStored .bltWidthHi data s)

/-- `R BLT.WIDTH_HI` (43_blt_registers.md R211). -/
def execRBltWidthHi (s : State) : Result := .next (readStored .bltWidthHi s)

/-- `W BLT.HEIGHT_LO` (43_blt_registers.md R212). -/
def execWBltHeightLo (data : Byte) (s : State) : Result := .next (writeStored .bltHeightLo data s)

/-- `R BLT.HEIGHT_LO` (43_blt_registers.md R212). -/
def execRBltHeightLo (s : State) : Result := .next (readStored .bltHeightLo s)

/-- `W BLT.HEIGHT_HI` (43_blt_registers.md R213). -/
def execWBltHeightHi (data : Byte) (s : State) : Result := .next (writeStored .bltHeightHi data s)

/-- `R BLT.HEIGHT_HI` (43_blt_registers.md R213). -/
def execRBltHeightHi (s : State) : Result := .next (readStored .bltHeightHi s)

/-- `W BLT.DPITCH_LO` (43_blt_registers.md R214). -/
def execWBltDpitchLo (data : Byte) (s : State) : Result := .next (writeStored .bltDpitchLo data s)

/-- `R BLT.DPITCH_LO` (43_blt_registers.md R214). -/
def execRBltDpitchLo (s : State) : Result := .next (readStored .bltDpitchLo s)

/-- `W BLT.DPITCH_HI` (43_blt_registers.md R215). -/
def execWBltDpitchHi (data : Byte) (s : State) : Result := .next (writeStored .bltDpitchHi data s)

/-- `R BLT.DPITCH_HI` (43_blt_registers.md R215). -/
def execRBltDpitchHi (s : State) : Result := .next (readStored .bltDpitchHi s)

/-- `W BLT.SPITCH_LO` (43_blt_registers.md R216). -/
def execWBltSpitchLo (data : Byte) (s : State) : Result := .next (writeStored .bltSpitchLo data s)

/-- `R BLT.SPITCH_LO` (43_blt_registers.md R216). -/
def execRBltSpitchLo (s : State) : Result := .next (readStored .bltSpitchLo s)

/-- `W BLT.SPITCH_HI` (43_blt_registers.md R217). -/
def execWBltSpitchHi (data : Byte) (s : State) : Result := .next (writeStored .bltSpitchHi data s)

/-- `R BLT.SPITCH_HI` (43_blt_registers.md R217). -/
def execRBltSpitchHi (s : State) : Result := .next (readStored .bltSpitchHi s)

/-- `W BLT.DEST_0` (43_blt_registers.md R218). -/
def execWBltDest0 (data : Byte) (s : State) : Result := .next (writeStored .bltDest0 data s)

/-- `R BLT.DEST_0` (43_blt_registers.md R218). -/
def execRBltDest0 (s : State) : Result := .next (readStored .bltDest0 s)

/-- `W BLT.DEST_1` (43_blt_registers.md R219). -/
def execWBltDest1 (data : Byte) (s : State) : Result := .next (writeStored .bltDest1 data s)

/-- `R BLT.DEST_1` (43_blt_registers.md R219). -/
def execRBltDest1 (s : State) : Result := .next (readStored .bltDest1 s)

/-- `W BLT.DEST_2` (43_blt_registers.md R220). -/
def execWBltDest2 (data : Byte) (s : State) : Result := .next (writeStored .bltDest2 data s)

/-- `R BLT.DEST_2` (43_blt_registers.md R220). -/
def execRBltDest2 (s : State) : Result := .next (readStored .bltDest2 s)

/-- `W BLT.SRC_0` (43_blt_registers.md R221). -/
def execWBltSrc0 (data : Byte) (s : State) : Result := .next (writeStored .bltSrc0 data s)

/-- `R BLT.SRC_0` (43_blt_registers.md R221). -/
def execRBltSrc0 (s : State) : Result := .next (readStored .bltSrc0 s)

/-- `W BLT.SRC_1` (43_blt_registers.md R222). -/
def execWBltSrc1 (data : Byte) (s : State) : Result := .next (writeStored .bltSrc1 data s)

/-- `R BLT.SRC_1` (43_blt_registers.md R222). -/
def execRBltSrc1 (s : State) : Result := .next (readStored .bltSrc1 s)

/-- `W BLT.SRC_2` (43_blt_registers.md R223). -/
def execWBltSrc2 (data : Byte) (s : State) : Result := .next (writeStored .bltSrc2 data s)

/-- `R BLT.SRC_2` (43_blt_registers.md R223). -/
def execRBltSrc2 (s : State) : Result := .next (readStored .bltSrc2 s)

/-- `W BLT.MODE` (43_blt_registers.md R224). -/
def execWBltMode (data : Byte) (s : State) : Result := .next (writeStored .bltMode data s)

/-- `R BLT.MODE` (43_blt_registers.md R224). -/
def execRBltMode (s : State) : Result := .next (readStored .bltMode s)

/-- `W BLT.STATUS` (43_blt_registers.md R230): START, while idle and past the lock gate, runs `BltStart`; anything else is
discarded. -/
def execWBltStatus (data : Byte) (s : State) : Result :=
  .next (gated .bltStatus s (if statusStart data && !busy s then bltStart s else s))

/-- `R BLT.STATUS` (43_blt_registers.md R231). -/
def execRBltStatus (s : State) : Result := .next (answerByte (statusByte s) s)

/-- `W BLT.ROP` (43_blt_registers.md R225). -/
def execWBltRop (data : Byte) (s : State) : Result := .next (writeStored .bltRop data s)

/-- `R BLT.ROP` (43_blt_registers.md R225). -/
def execRBltRop (s : State) : Result := .next (readStored .bltRop s)

/-- `W BLT.TCOL_LO` (43_blt_registers.md R226). -/
def execWBltTcolLo (data : Byte) (s : State) : Result := .next (writeStored .bltTcolLo data s)

/-- `R BLT.TCOL_LO` (43_blt_registers.md R226). -/
def execRBltTcolLo (s : State) : Result := .next (readStored .bltTcolLo s)

/-- `W BLT.TCOL_HI` (43_blt_registers.md R227). -/
def execWBltTcolHi (data : Byte) (s : State) : Result := .next (writeStored .bltTcolHi data s)

/-- `R BLT.TCOL_HI` (43_blt_registers.md R227). -/
def execRBltTcolHi (s : State) : Result := .next (readStored .bltTcolHi s)

/-- `W BLT.TMASK_LO` (43_blt_registers.md R228). -/
def execWBltTmaskLo (data : Byte) (s : State) : Result := .next (writeStored .bltTmaskLo data s)

/-- `R BLT.TMASK_LO` (43_blt_registers.md R228). -/
def execRBltTmaskLo (s : State) : Result := .next (readStored .bltTmaskLo s)

/-- `W BLT.TMASK_HI` (43_blt_registers.md R229). -/
def execWBltTmaskHi (data : Byte) (s : State) : Result := .next (writeStored .bltTmaskHi data s)

/-- `R BLT.TMASK_HI` (43_blt_registers.md R229). -/
def execRBltTmaskHi (s : State) : Result := .next (readStored .bltTmaskHi s)

/-- `W BLT.DATA` (43_blt_registers.md R232): feeds one byte to a waiting system transfer; discarded otherwise. -/
def execWBltData (data : Byte) (s : State) : Result :=
  .next (gated .bltData s (if s.blt.fsm == .xferSys then sysFeed data s else s))

/-- `R BLT.DATA` (43_blt_registers.md R233): returns `UNASSIGNED_READ`. -/
def execRBltData (s : State) : Result := .next (readUnassigned s)

end Sys2Proof.Machine
end

