-- ==== Sys2Proof/Machine/Crtc.lean ====
section
/-! DEFINITION. The CRT-Controller extension registers (40_register_file_bank.md R142..R145). -/

namespace Sys2Proof.Machine

/-- `W CRTC.EXT19` (40_register_file_bank.md R142). -/
def execWCrtcExt19 (data : Byte) (s : State) : Result := .next (writeStored .crtcExt19 data s)

/-- `R CRTC.EXT19` (40_register_file_bank.md R142). -/
def execRCrtcExt19 (s : State) : Result := .next (readStored .crtcExt19 s)

/-- `W CRTC.EXT1A` (40_register_file_bank.md R143). -/
def execWCrtcExt1A (data : Byte) (s : State) : Result := .next (writeStored .crtcExt1A data s)

/-- `R CRTC.EXT1A` (40_register_file_bank.md R143). -/
def execRCrtcExt1A (s : State) : Result := .next (readStored .crtcExt1A s)

/-- `W CRTC.EXT1B` (40_register_file_bank.md R144). -/
def execWCrtcExt1B (data : Byte) (s : State) : Result := .next (writeStored .crtcExt1B data s)

/-- `R CRTC.EXT1B` (40_register_file_bank.md R144). -/
def execRCrtcExt1B (s : State) : Result := .next (readStored .crtcExt1B s)

/-- `W CRTC.ID` (40_register_file_bank.md R145): discarded in both lock states, so the lock gate makes no difference to it. -/
def execWCrtcId (s : State) : Result := .next s

/-- `R CRTC.ID` (40_register_file_bank.md R145): the OPEN `CAP.chip_id` of the variant. -/
def execRCrtcId (s : State) : Result := .next (answerByte (s.cfg.capability.chipId) s)

end Sys2Proof.Machine
end

