-- ==== Sys2Proof/Machine/Cursor.lean ====
section
/-! DEFINITION. The hardware-cursor registers (42_cursor_overlay.md R190..R195; encoding 30_encoding.md R93, R104). -/

namespace Sys2Proof.Machine

/-- A coordinate from the data byte and `index[7:5]` (30_encoding.md R93). -/
def cursorCoord (low : BitVec 3) (data : Byte) : BitVec 11 := data ++ low

/-- Bits [10:3] of a coordinate (30_encoding.md R93). -/
def coordHigh (c : BitVec 11) : Byte := c.extractLsb' 3 8

/-- The state with `cur.x` replaced. -/
def putCursorX (c : BitVec 11) (s : State) : State := { s with cur := { s.cur with x := c } }

/-- The state with `cur.y` replaced. -/
def putCursorY (c : BitVec 11) (s : State) : State := { s with cur := { s.cur with y := c } }

/-- `W SEQ.CURSOR_X` (42_cursor_overlay.md R190): the index carries the three low bits. -/
def execWSeqCursorX (low : BitVec 3) (data : Byte) (s : State) : Result :=
  .next (gated .seqCursorX s (putCursorX (cursorCoord low data) s))

/-- `R SEQ.CURSOR_X` (42_cursor_overlay.md R191): the three low bits are not readable. -/
def execRSeqCursorX (s : State) : Result := .next (answerByte (coordHigh s.cur.x) s)

/-- `W SEQ.CURSOR_Y` (42_cursor_overlay.md R192): the index carries the three low bits. -/
def execWSeqCursorY (low : BitVec 3) (data : Byte) (s : State) : Result :=
  .next (gated .seqCursorY s (putCursorY (cursorCoord low data) s))

/-- `R SEQ.CURSOR_Y` (42_cursor_overlay.md R193): the three low bits are not readable. -/
def execRSeqCursorY (s : State) : Result := .next (answerByte (coordHigh s.cur.y) s)

/-- `W SEQ.CURSOR_ATTR` (42_cursor_overlay.md R194). -/
def execWSeqCursorAttr (data : Byte) (s : State) : Result := .next (writeStored .seqCursorAttr data s)

/-- `R SEQ.CURSOR_ATTR` (42_cursor_overlay.md R194). -/
def execRSeqCursorAttr (s : State) : Result := .next (readStored .seqCursorAttr s)

/-- `W SEQ.CURSOR_ADDR` (42_cursor_overlay.md R195). -/
def execWSeqCursorAddr (data : Byte) (s : State) : Result := .next (writeStored .seqCursorAddr data s)

/-- `R SEQ.CURSOR_ADDR` (42_cursor_overlay.md R195). -/
def execRSeqCursorAddr (s : State) : Result := .next (readStored .seqCursorAddr s)

end Sys2Proof.Machine
end

