-- ==== Sys2Proof/Machine/DacOps.lean ====
section
/-! DEFINITION. The operations of the DAC port family: the phase machine (41_hidden_dac.md R171, R173), the palette
selection (R182) and the component accesses with their counters (R176..R179). -/

namespace Sys2Proof.Machine

/-- The other mode (41_hidden_dac.md R171). -/
def toggleMode : DacMode → DacMode
  | .normal => .hidden
  | .hidden => .normal

/-- The phase advance of every access of `DAC.MASK` (41_hidden_dac.md R171). -/
def maskAdvance (s : State) : State :=
  if s.hdac.phase + 1 = s.cfg.hdacCycle then
    { s with hdac := { mode := toggleMode s.hdac.mode, phase := 0 } }
  else { s with hdac := { s.hdac with phase := s.hdac.phase + 1 } }

/-- The phase reset of every other access of the DAC port family (41_hidden_dac.md R173). -/
def phaseReset (s : State) : State := { s with hdac := { s.hdac with phase := 0 } }

/-- The next value of a component counter: red, green, blue, red (41_hidden_dac.md R176, R177). -/
def nextComponent : Component → Component
  | .red => .green
  | .green => .blue
  | .blue => .red

/-- The palette index after an access of component `c` (41_hidden_dac.md R176, R177): the next entry, modulo 256, after
blue. -/
def nextIndex (c : Component) (i : Byte) : Byte :=
  match c with
  | .blue => i + 1
  | .red | .green => i

/-- One component of an entry. -/
def component (c : Component) (e : Rgb) : Byte :=
  match c with
  | .red => e.red
  | .green => e.green
  | .blue => e.blue

/-- An entry with one component replaced. -/
def setComponent (c : Component) (v : Byte) (e : Rgb) : Rgb :=
  match c with
  | .red => { e with red := v }
  | .green => { e with green := v }
  | .blue => { e with blue := v }

/-- `idx & 0x0F`, the entry of the extended palette an index names (41_hidden_dac.md R182). -/
def extIndex (idx : Byte) : BitVec 4 := idx.extractLsb' 0 4

/-- `Entry(sel, idx)` (41_hidden_dac.md R182). -/
def paletteEntry (sel : DacMode) (idx : Byte) (s : State) : Rgb :=
  match sel with
  | .hidden => s.cur.extPalette[(extIndex idx).toNat]'(extIndex idx).isLt
  | .normal => s.dac.palette[idx.toNat]'idx.isLt

/-- The state with `Entry(sel, idx)` replaced. -/
def putEntry (sel : DacMode) (idx : Byte) (e : Rgb) (s : State) : State :=
  match sel with
  | .hidden =>
    { s with cur := { s.cur with extPalette := s.cur.extPalette.set (extIndex idx).toNat e (extIndex idx).isLt } }
  | .normal => { s with dac := { s.dac with palette := s.dac.palette.set idx.toNat e idx.isLt } }

/-- A component write to the palette `sel` (41_hidden_dac.md R176, R178). -/
def writeComponent (sel : DacMode) (data : Byte) (s : State) : State :=
  let idx := s.dac.writeIndex
  let c := s.dac.wcomp
  let stored := putEntry sel idx (setComponent c (data &&& s.cfg.dacCompMask) (paletteEntry sel idx s)) s
  phaseReset { stored with dac := { stored.dac with wcomp := nextComponent c, writeIndex := nextIndex c idx } }

/-- A component read from the palette `sel` (41_hidden_dac.md R177, R179). -/
def readComponent (sel : DacMode) (s : State) : State :=
  let idx := s.dac.readIndex
  let c := s.dac.rcomp
  answerByte (component c (paletteEntry sel idx s))
    (phaseReset { s with dac := { s.dac with rcomp := nextComponent c, readIndex := nextIndex c idx } })

end Sys2Proof.Machine
end

