-- ==== Sys2Proof/Machine/Dac.lean ====
section
/-! DEFINITION. The DAC port family (41_hidden_dac.md R171..R181). By default none of the ports is protected; under a table that
protects one, its write passes the lock gate (40_register_file_bank.md R120) like any other. -/

namespace Sys2Proof.Machine

/-- `W DAC.MASK` (41_hidden_dac.md R171, R172): advances the phase; the byte passes through to the pixel mask. -/
def execWDacMask (data : Byte) (s : State) : Result :=
  .next (gated .dacMask s { maskAdvance s with dac := { s.dac with pelMask := data } })

/-- `R DAC.MASK` (41_hidden_dac.md R171, R172): advances the phase; returns the pixel mask. -/
def execRDacMask (s : State) : Result := .next (answerByte s.dac.pelMask (maskAdvance s))

/-- `W DAC.INDEX_R` (41_hidden_dac.md R181, R173). -/
def execWDacIndexR (data : Byte) (s : State) : Result :=
  .next (gated .dacIndexR s (phaseReset { s with dac := { s.dac with readIndex := data, rcomp := .red } }))

/-- `R DAC.INDEX_R` (41_hidden_dac.md R181, R173): the base device's DAC-state byte, a free byte at each read
(93_implementation_defined.md U8). -/
def execRDacIndexR (s : State) : Result :=
  .next (answerByte (Config.dacStateByte s.dacDraws) (phaseReset { s with dacDraws := s.dacDraws + 1 }))

/-- `W DAC.INDEX_W` (41_hidden_dac.md R175, R173). -/
def execWDacIndexW (data : Byte) (s : State) : Result :=
  .next (gated .dacIndexW s (phaseReset { s with dac := { s.dac with writeIndex := data, wcomp := .red } }))

/-- `R DAC.INDEX_W` (41_hidden_dac.md R175, R173). -/
def execRDacIndexW (s : State) : Result := .next (answerByte s.dac.writeIndex (phaseReset s))

/-- `W DAC.DATA` (41_hidden_dac.md R176): the palette `hdac.mode` selects. -/
def execWDacData (data : Byte) (s : State) : Result :=
  .next (gated .dacData s (writeComponent s.hdac.mode data s))

/-- `R DAC.DATA` (41_hidden_dac.md R177): the palette `hdac.mode` selects. -/
def execRDacData (s : State) : Result := .next (readComponent s.hdac.mode s)

/-- `W DAC.OVERLAY` (41_hidden_dac.md R178): the extended palette, whatever `hdac.mode` is. -/
def execWDacOverlay (data : Byte) (s : State) : Result :=
  .next (gated .dacOverlay s (writeComponent .hidden data s))

/-- `R DAC.OVERLAY` (41_hidden_dac.md R179): the extended palette, whatever `hdac.mode` is. -/
def execRDacOverlay (s : State) : Result := .next (readComponent .hidden s)

/-- `W DAC[unassigned]` (41_hidden_dac.md R180; 30_encoding.md R105): the write is discarded, and `hdac.phase` becomes 0. -/
def execWDacUnassigned (s : State) : Result := .next (phaseReset s)

/-- `R DAC[unassigned]` (41_hidden_dac.md R180; 30_encoding.md R105): returns `UNASSIGNED_READ`, and `hdac.phase` becomes 0. -/
def execRDacUnassigned (s : State) : Result := .next (readUnassigned (phaseReset s))

end Sys2Proof.Machine
end

