-- ==== Sys2Proof/Machine/Gc.lean ====
section
/-! DEFINITION. The Graphics-Controller extension registers (40_register_file_bank.md R133..R137). -/

namespace Sys2Proof.Machine

/-- `W GC.BG0` (40_register_file_bank.md R133). -/
def execWGcBg0 (data : Byte) (s : State) : Result := .next (writeStored .gcBg0 data s)

/-- `R GC.BG0` (40_register_file_bank.md R133). -/
def execRGcBg0 (s : State) : Result := .next (readStored .gcBg0 s)

/-- `W GC.FG0` (40_register_file_bank.md R134). -/
def execWGcFg0 (data : Byte) (s : State) : Result := .next (writeStored .gcFg0 data s)

/-- `R GC.FG0` (40_register_file_bank.md R134). -/
def execRGcFg0 (s : State) : Result := .next (readStored .gcFg0 s)

/-- `W GC.MODE_EXT` (40_register_file_bank.md R135). -/
def execWGcModeExt (data : Byte) (s : State) : Result := .next (writeStored .gcModeExt data s)

/-- `R GC.MODE_EXT` (40_register_file_bank.md R135). -/
def execRGcModeExt (s : State) : Result := .next (readStored .gcModeExt s)

/-- `W GC.BG1` (40_register_file_bank.md R136). -/
def execWGcBg1 (data : Byte) (s : State) : Result := .next (writeStored .gcBg1 data s)

/-- `R GC.BG1` (40_register_file_bank.md R136). -/
def execRGcBg1 (s : State) : Result := .next (readStored .gcBg1 s)

/-- `W GC.FG1` (40_register_file_bank.md R137). -/
def execWGcFg1 (data : Byte) (s : State) : Result := .next (writeStored .gcFg1 data s)

/-- `R GC.FG1` (40_register_file_bank.md R137). -/
def execRGcFg1 (s : State) : Result := .next (readStored .gcFg1 s)

end Sys2Proof.Machine
end

