-- ==== Sys2Proof/Machine/Rops.lean ====
section
/-! DEFINITION. The raster-operation rows (45_blt_rops.md R290..R305, R307). The engine, not the host, executes them: one such
instruction is one byte operation of a running VRAM transfer (44_blt_engine.md R253) under that raster operation.
DESIGN CHOICE, notes/assumptions/5.md. -/

namespace Sys2Proof.Machine

/-- One pass of the loop of `RunVram` (44_blt_engine.md R253: `while fsm = XFER_VRAM`) under the raster operation of a
row: its own function where its code is in `CAP.rops`, else the default (45_blt_rops.md R306). -/
def engineByte (code : Byte) (f : Byte → Byte → Byte) (s : State) : State :=
  match s.blt.fsm with
  | .xferVram => byteOperation (rasterIn s.cfg.rops code f) s
  | _ => s

/-- `ROP.ZERO` (45_blt_rops.md R290). -/
def execRopZero (s : State) : Result := .next (engineByte 0x00 rasterZero s)

/-- `ROP.AND` (45_blt_rops.md R291). -/
def execRopAnd (s : State) : Result := .next (engineByte 0x05 rasterAnd s)

/-- `ROP.NOP` (45_blt_rops.md R292). -/
def execRopNop (s : State) : Result := .next (engineByte 0x06 rasterNop s)

/-- `ROP.SRC_AND_NOT_DST` (45_blt_rops.md R293). -/
def execRopSrcAndNotDst (s : State) : Result := .next (engineByte 0x09 rasterSrcAndNotDst s)

/-- `ROP.NOT_DST` (45_blt_rops.md R294). -/
def execRopNotDst (s : State) : Result := .next (engineByte 0x0B rasterNotDst s)

/-- `ROP.COPY` (45_blt_rops.md R295). -/
def execRopCopy (s : State) : Result := .next (engineByte 0x0D rasterCopy s)

/-- `ROP.ONE` (45_blt_rops.md R296). -/
def execRopOne (s : State) : Result := .next (engineByte 0x0E rasterOne s)

/-- `ROP.NOT_SRC_AND_DST` (45_blt_rops.md R297). -/
def execRopNotSrcAndDst (s : State) : Result := .next (engineByte 0x50 rasterNotSrcAndDst s)

/-- `ROP.XOR` (45_blt_rops.md R298). -/
def execRopXor (s : State) : Result := .next (engineByte 0x59 rasterXor s)

/-- `ROP.OR` (45_blt_rops.md R299). -/
def execRopOr (s : State) : Result := .next (engineByte 0x6D rasterOr s)

/-- `ROP.NOR` (45_blt_rops.md R300). -/
def execRopNor (s : State) : Result := .next (engineByte 0x90 rasterNor s)

/-- `ROP.XNOR` (45_blt_rops.md R301). -/
def execRopXnor (s : State) : Result := .next (engineByte 0x95 rasterXnor s)

/-- `ROP.SRC_OR_NOT_DST` (45_blt_rops.md R302). -/
def execRopSrcOrNotDst (s : State) : Result := .next (engineByte 0xAD rasterSrcOrNotDst s)

/-- `ROP.NOT_SRC` (45_blt_rops.md R303). -/
def execRopNotSrc (s : State) : Result := .next (engineByte 0xD0 rasterNotSrc s)

/-- `ROP.NOT_SRC_OR_DST` (45_blt_rops.md R304). -/
def execRopNotSrcOrDst (s : State) : Result := .next (engineByte 0xD6 rasterNotSrcOrDst s)

/-- `ROP.NAND` (45_blt_rops.md R305). -/
def execRopNand (s : State) : Result := .next (engineByte 0xDA rasterNand s)

/-- `ROP.DEFAULT` (45_blt_rops.md R307): any code without a row acts as COPY. -/
def execRopDefault (code : Byte) (s : State) : Result := .next (engineByte code rasterDefault s)

end Sys2Proof.Machine
end

