-- ==== Sys2Proof/Machine/Seq.lean ====
section
/-! DEFINITION. The Sequencer extension registers but the cursor's (40_register_file_bank.md R122..R127, R131, R132; a write to
`SEQ.EXT_MODE` changes the display mode only, R129). -/

namespace Sys2Proof.Machine

/-- `W SEQ.LOCK` (40_register_file_bank.md R122; 30_encoding.md R103): unprotected by default, so it takes effect in both lock
states. -/
def execWSeqLock (data : Byte) (s : State) : Result :=
  .next (gated .seqLock s { s with rf := { s.rf with lockReg := data &&& s.cfg.unlockMask } })

/-- `R SEQ.LOCK` (40_register_file_bank.md R123). -/
def execRSeqLock (s : State) : Result := .next (answerByte (lockByte s) s)

/-- `W SEQ.EXT_MODE` (40_register_file_bank.md R124). -/
def execWSeqExtMode (data : Byte) (s : State) : Result := .next (writeStored .seqExtMode data s)

/-- `R SEQ.EXT_MODE` (40_register_file_bank.md R124). -/
def execRSeqExtMode (s : State) : Result := .next (readStored .seqExtMode s)

/-- `W SEQ.SCRATCH1` (40_register_file_bank.md R125). -/
def execWSeqScratch1 (data : Byte) (s : State) : Result := .next (writeStored .seqScratch1 data s)

/-- `R SEQ.SCRATCH1` (40_register_file_bank.md R125). -/
def execRSeqScratch1 (s : State) : Result := .next (readStored .seqScratch1 s)

/-- `W SEQ.SCRATCH2` (40_register_file_bank.md R126). -/
def execWSeqScratch2 (data : Byte) (s : State) : Result := .next (writeStored .seqScratch2 data s)

/-- `R SEQ.SCRATCH2` (40_register_file_bank.md R126). -/
def execRSeqScratch2 (s : State) : Result := .next (readStored .seqScratch2 s)

/-- `W SEQ.SCRATCH3` (40_register_file_bank.md R127). -/
def execWSeqScratch3 (data : Byte) (s : State) : Result := .next (writeStored .seqScratch3 data s)

/-- `R SEQ.SCRATCH3` (40_register_file_bank.md R127). -/
def execRSeqScratch3 (s : State) : Result := .next (readStored .seqScratch3 s)

/-- `W SEQ.VCLK_NUM0` (40_register_file_bank.md R131). -/
def execWSeqVclkNum0 (data : Byte) (s : State) : Result := .next (writeStored .seqVclkNum0 data s)

/-- `R SEQ.VCLK_NUM0` (40_register_file_bank.md R131). -/
def execRSeqVclkNum0 (s : State) : Result := .next (readStored .seqVclkNum0 s)

/-- `W SEQ.VCLK_NUM1` (40_register_file_bank.md R131). -/
def execWSeqVclkNum1 (data : Byte) (s : State) : Result := .next (writeStored .seqVclkNum1 data s)

/-- `R SEQ.VCLK_NUM1` (40_register_file_bank.md R131). -/
def execRSeqVclkNum1 (s : State) : Result := .next (readStored .seqVclkNum1 s)

/-- `W SEQ.VCLK_NUM2` (40_register_file_bank.md R131). -/
def execWSeqVclkNum2 (data : Byte) (s : State) : Result := .next (writeStored .seqVclkNum2 data s)

/-- `R SEQ.VCLK_NUM2` (40_register_file_bank.md R131). -/
def execRSeqVclkNum2 (s : State) : Result := .next (readStored .seqVclkNum2 s)

/-- `W SEQ.VCLK_NUM3` (40_register_file_bank.md R131). -/
def execWSeqVclkNum3 (data : Byte) (s : State) : Result := .next (writeStored .seqVclkNum3 data s)

/-- `R SEQ.VCLK_NUM3` (40_register_file_bank.md R131). -/
def execRSeqVclkNum3 (s : State) : Result := .next (readStored .seqVclkNum3 s)

/-- `W SEQ.VCLK_DENOM0` (40_register_file_bank.md R132). -/
def execWSeqVclkDenom0 (data : Byte) (s : State) : Result := .next (writeStored .seqVclkDenom0 data s)

/-- `R SEQ.VCLK_DENOM0` (40_register_file_bank.md R132). -/
def execRSeqVclkDenom0 (s : State) : Result := .next (readStored .seqVclkDenom0 s)

/-- `W SEQ.VCLK_DENOM1` (40_register_file_bank.md R132). -/
def execWSeqVclkDenom1 (data : Byte) (s : State) : Result := .next (writeStored .seqVclkDenom1 data s)

/-- `R SEQ.VCLK_DENOM1` (40_register_file_bank.md R132). -/
def execRSeqVclkDenom1 (s : State) : Result := .next (readStored .seqVclkDenom1 s)

/-- `W SEQ.VCLK_DENOM2` (40_register_file_bank.md R132). -/
def execWSeqVclkDenom2 (data : Byte) (s : State) : Result := .next (writeStored .seqVclkDenom2 data s)

/-- `R SEQ.VCLK_DENOM2` (40_register_file_bank.md R132). -/
def execRSeqVclkDenom2 (s : State) : Result := .next (readStored .seqVclkDenom2 s)

/-- `W SEQ.VCLK_DENOM3` (40_register_file_bank.md R132). -/
def execWSeqVclkDenom3 (data : Byte) (s : State) : Result := .next (writeStored .seqVclkDenom3 data s)

/-- `R SEQ.VCLK_DENOM3` (40_register_file_bank.md R132). -/
def execRSeqVclkDenom3 (s : State) : Result := .next (readStored .seqVclkDenom3 s)

end Sys2Proof.Machine
end

