-- ==== Sys2Proof/Machine/Unassigned.lean ====
section
/-! DEFINITION. Transactions to unassigned indices and ports (30_encoding.md R105; 40_register_file_bank.md R140, R141, R146, R154;
43_blt_registers.md R234) and the words that are no transaction (R105, R106). Unassigned DAC ports are in Dac.lean. -/

namespace Sys2Proof.Machine

/-- `W SEQ[unassigned]` (40_register_file_bank.md R140; 30_encoding.md R105): the write is discarded. -/
def execWSeqUnassigned (s : State) : Result := .next s

/-- `R SEQ[unassigned]` (40_register_file_bank.md R140; 30_encoding.md R105): returns `UNASSIGNED_READ`. -/
def execRSeqUnassigned (s : State) : Result := .next (readUnassigned s)

/-- `W GC[unassigned]` (40_register_file_bank.md R141; 30_encoding.md R105): the write is discarded. -/
def execWGcUnassigned (s : State) : Result := .next s

/-- `R GC[unassigned]` (40_register_file_bank.md R141; 30_encoding.md R105): returns `UNASSIGNED_READ`. -/
def execRGcUnassigned (s : State) : Result := .next (readUnassigned s)

/-- `W CRTC[unassigned]` (40_register_file_bank.md R146; 30_encoding.md R105): the write is discarded. -/
def execWCrtcUnassigned (s : State) : Result := .next s

/-- `R CRTC[unassigned]` (40_register_file_bank.md R146; 30_encoding.md R105): returns `UNASSIGNED_READ`. -/
def execRCrtcUnassigned (s : State) : Result := .next (readUnassigned s)

/-- `W BLT[unassigned]` (43_blt_registers.md R234; 30_encoding.md R105): the write is discarded. -/
def execWBltUnassigned (s : State) : Result := .next s

/-- `R BLT[unassigned]` (43_blt_registers.md R234; 30_encoding.md R105): returns `UNASSIGNED_READ`. -/
def execRBltUnassigned (s : State) : Result := .next (readUnassigned s)

/-- `W BANK[unassigned]` (40_register_file_bank.md R154; 30_encoding.md R105): the write is discarded. -/
def execWBankUnassigned (s : State) : Result := .next s

/-- `R BANK[unassigned]` (40_register_file_bank.md R154; 30_encoding.md R105): returns `UNASSIGNED_READ`. -/
def execRBankUnassigned (s : State) : Result := .next (readUnassigned s)

/-- An invalid word, row with mask 0x8000000000 (30_encoding.md R105, R106 step 1): no transaction; the state is unchanged. -/
def execInvalidSpace (s : State) : Result := .next s

/-- An invalid word, row with mask 0x0200000000 (30_encoding.md R105, R106 step 1): no transaction; the state is unchanged. -/
def execInvalidBit33 (s : State) : Result := .next s

/-- An invalid word, row with mask 0x0400000000 (30_encoding.md R105, R106 step 1): no transaction; the state is unchanged. -/
def execInvalidBit34 (s : State) : Result := .next s

/-- An invalid word, row with mask 0x0800000000 (30_encoding.md R105, R106 step 1): no transaction; the state is unchanged. -/
def execInvalidBit35 (s : State) : Result := .next s

end Sys2Proof.Machine
end

