-- ==== Sys2Proof/Syntax.lean ====
section
/-! DEFINITION. The instructions: one constructor for each row of spec/opcode_table.json. A transaction (30_encoding.md
R90) carries its data byte; a read carries the word's data bits too, which no rule reads (R90: "0 in a read"), so that no
bit of a word is lost. The rows of format `ROP` are the raster operations the byte `blt.rop` selects. -/

namespace Sys2Proof

/-- The instruction set: 114 assigned transactions, 12 transactions to unassigned indices, 4 kinds of invalid word and
the 17 raster-operation rows (30_encoding.md R92..R102, R105). -/
inductive Instr where
  -- Sequencer extensions
  /-- `W SEQ.LOCK`: 40_register_file_bank.md R122. -/
  | wSeqLock (data : Byte)
  /-- `R SEQ.LOCK`: 40_register_file_bank.md R123. -/
  | rSeqLock (data : Byte)
  /-- `W SEQ.EXT_MODE`: 40_register_file_bank.md R124. -/
  | wSeqExtMode (data : Byte)
  /-- `R SEQ.EXT_MODE`: 40_register_file_bank.md R124. -/
  | rSeqExtMode (data : Byte)
  /-- `W SEQ.SCRATCH1`: 40_register_file_bank.md R125. -/
  | wSeqScratch1 (data : Byte)
  /-- `R SEQ.SCRATCH1`: 40_register_file_bank.md R125. -/
  | rSeqScratch1 (data : Byte)
  /-- `W SEQ.SCRATCH2`: 40_register_file_bank.md R126. -/
  | wSeqScratch2 (data : Byte)
  /-- `R SEQ.SCRATCH2`: 40_register_file_bank.md R126. -/
  | rSeqScratch2 (data : Byte)
  /-- `W SEQ.SCRATCH3`: 40_register_file_bank.md R127. -/
  | wSeqScratch3 (data : Byte)
  /-- `R SEQ.SCRATCH3`: 40_register_file_bank.md R127. -/
  | rSeqScratch3 (data : Byte)
  /-- `W SEQ.VCLK_NUM0`: 40_register_file_bank.md R131. -/
  | wSeqVclkNum0 (data : Byte)
  /-- `R SEQ.VCLK_NUM0`: 40_register_file_bank.md R131. -/
  | rSeqVclkNum0 (data : Byte)
  /-- `W SEQ.VCLK_NUM1`: 40_register_file_bank.md R131. -/
  | wSeqVclkNum1 (data : Byte)
  /-- `R SEQ.VCLK_NUM1`: 40_register_file_bank.md R131. -/
  | rSeqVclkNum1 (data : Byte)
  /-- `W SEQ.VCLK_NUM2`: 40_register_file_bank.md R131. -/
  | wSeqVclkNum2 (data : Byte)
  /-- `R SEQ.VCLK_NUM2`: 40_register_file_bank.md R131. -/
  | rSeqVclkNum2 (data : Byte)
  /-- `W SEQ.VCLK_NUM3`: 40_register_file_bank.md R131. -/
  | wSeqVclkNum3 (data : Byte)
  /-- `R SEQ.VCLK_NUM3`: 40_register_file_bank.md R131. -/
  | rSeqVclkNum3 (data : Byte)
  /-- `W SEQ.VCLK_DENOM0`: 40_register_file_bank.md R132. -/
  | wSeqVclkDenom0 (data : Byte)
  /-- `R SEQ.VCLK_DENOM0`: 40_register_file_bank.md R132. -/
  | rSeqVclkDenom0 (data : Byte)
  /-- `W SEQ.VCLK_DENOM1`: 40_register_file_bank.md R132. -/
  | wSeqVclkDenom1 (data : Byte)
  /-- `R SEQ.VCLK_DENOM1`: 40_register_file_bank.md R132. -/
  | rSeqVclkDenom1 (data : Byte)
  /-- `W SEQ.VCLK_DENOM2`: 40_register_file_bank.md R132. -/
  | wSeqVclkDenom2 (data : Byte)
  /-- `R SEQ.VCLK_DENOM2`: 40_register_file_bank.md R132. -/
  | rSeqVclkDenom2 (data : Byte)
  /-- `W SEQ.VCLK_DENOM3`: 40_register_file_bank.md R132. -/
  | wSeqVclkDenom3 (data : Byte)
  /-- `R SEQ.VCLK_DENOM3`: 40_register_file_bank.md R132. -/
  | rSeqVclkDenom3 (data : Byte)
  /-- `W SEQ.CURSOR_X`: 42_cursor_overlay.md R190. -/
  | wSeqCursorX (low : BitVec 3) (data : Byte)
  /-- `R SEQ.CURSOR_X`: 42_cursor_overlay.md R191. -/
  | rSeqCursorX (low : BitVec 3) (data : Byte)
  /-- `W SEQ.CURSOR_Y`: 42_cursor_overlay.md R192. -/
  | wSeqCursorY (low : BitVec 3) (data : Byte)
  /-- `R SEQ.CURSOR_Y`: 42_cursor_overlay.md R193. -/
  | rSeqCursorY (low : BitVec 3) (data : Byte)
  /-- `W SEQ.CURSOR_ATTR`: 42_cursor_overlay.md R194. -/
  | wSeqCursorAttr (data : Byte)
  /-- `R SEQ.CURSOR_ATTR`: 42_cursor_overlay.md R194. -/
  | rSeqCursorAttr (data : Byte)
  /-- `W SEQ.CURSOR_ADDR`: 42_cursor_overlay.md R195. -/
  | wSeqCursorAddr (data : Byte)
  /-- `R SEQ.CURSOR_ADDR`: 42_cursor_overlay.md R195. -/
  | rSeqCursorAddr (data : Byte)
  -- Graphics-Controller extensions
  /-- `W GC.BG0`: 40_register_file_bank.md R133. -/
  | wGcBg0 (data : Byte)
  /-- `R GC.BG0`: 40_register_file_bank.md R133. -/
  | rGcBg0 (data : Byte)
  /-- `W GC.FG0`: 40_register_file_bank.md R134. -/
  | wGcFg0 (data : Byte)
  /-- `R GC.FG0`: 40_register_file_bank.md R134. -/
  | rGcFg0 (data : Byte)
  /-- `W GC.MODE_EXT`: 40_register_file_bank.md R135. -/
  | wGcModeExt (data : Byte)
  /-- `R GC.MODE_EXT`: 40_register_file_bank.md R135. -/
  | rGcModeExt (data : Byte)
  /-- `W GC.BG1`: 40_register_file_bank.md R136. -/
  | wGcBg1 (data : Byte)
  /-- `R GC.BG1`: 40_register_file_bank.md R136. -/
  | rGcBg1 (data : Byte)
  /-- `W GC.FG1`: 40_register_file_bank.md R137. -/
  | wGcFg1 (data : Byte)
  /-- `R GC.FG1`: 40_register_file_bank.md R137. -/
  | rGcFg1 (data : Byte)
  -- CRT-Controller extensions
  /-- `W CRTC.EXT19`: 40_register_file_bank.md R142. -/
  | wCrtcExt19 (data : Byte)
  /-- `R CRTC.EXT19`: 40_register_file_bank.md R142. -/
  | rCrtcExt19 (data : Byte)
  /-- `W CRTC.EXT1A`: 40_register_file_bank.md R143. -/
  | wCrtcExt1A (data : Byte)
  /-- `R CRTC.EXT1A`: 40_register_file_bank.md R143. -/
  | rCrtcExt1A (data : Byte)
  /-- `W CRTC.EXT1B`: 40_register_file_bank.md R144. -/
  | wCrtcExt1B (data : Byte)
  /-- `R CRTC.EXT1B`: 40_register_file_bank.md R144. -/
  | rCrtcExt1B (data : Byte)
  /-- `W CRTC.ID`: 40_register_file_bank.md R145. -/
  | wCrtcId (data : Byte)
  /-- `R CRTC.ID`: 40_register_file_bank.md R145. -/
  | rCrtcId (data : Byte)
  -- DAC port family
  /-- `W DAC.MASK`: 41_hidden_dac.md R171. -/
  | wDacMask (data : Byte)
  /-- `R DAC.MASK`: 41_hidden_dac.md R172. -/
  | rDacMask (data : Byte)
  /-- `W DAC.INDEX_R`: 41_hidden_dac.md R181. -/
  | wDacIndexR (data : Byte)
  /-- `R DAC.INDEX_R`: 41_hidden_dac.md R181. -/
  | rDacIndexR (data : Byte)
  /-- `W DAC.INDEX_W`: 41_hidden_dac.md R175. -/
  | wDacIndexW (data : Byte)
  /-- `R DAC.INDEX_W`: 41_hidden_dac.md R175. -/
  | rDacIndexW (data : Byte)
  /-- `W DAC.DATA`: 41_hidden_dac.md R176. -/
  | wDacData (data : Byte)
  /-- `R DAC.DATA`: 41_hidden_dac.md R177. -/
  | rDacData (data : Byte)
  /-- `W DAC.OVERLAY`: 41_hidden_dac.md R178. -/
  | wDacOverlay (data : Byte)
  /-- `R DAC.OVERLAY`: 41_hidden_dac.md R179. -/
  | rDacOverlay (data : Byte)
  -- BitBLT register block
  /-- `W BLT.WIDTH_LO`: 43_blt_registers.md R210. -/
  | wBltWidthLo (data : Byte)
  /-- `R BLT.WIDTH_LO`: 43_blt_registers.md R210. -/
  | rBltWidthLo (data : Byte)
  /-- `W BLT.WIDTH_HI`: 43_blt_registers.md R211. -/
  | wBltWidthHi (data : Byte)
  /-- `R BLT.WIDTH_HI`: 43_blt_registers.md R211. -/
  | rBltWidthHi (data : Byte)
  /-- `W BLT.HEIGHT_LO`: 43_blt_registers.md R212. -/
  | wBltHeightLo (data : Byte)
  /-- `R BLT.HEIGHT_LO`: 43_blt_registers.md R212. -/
  | rBltHeightLo (data : Byte)
  /-- `W BLT.HEIGHT_HI`: 43_blt_registers.md R213. -/
  | wBltHeightHi (data : Byte)
  /-- `R BLT.HEIGHT_HI`: 43_blt_registers.md R213. -/
  | rBltHeightHi (data : Byte)
  /-- `W BLT.DPITCH_LO`: 43_blt_registers.md R214. -/
  | wBltDpitchLo (data : Byte)
  /-- `R BLT.DPITCH_LO`: 43_blt_registers.md R214. -/
  | rBltDpitchLo (data : Byte)
  /-- `W BLT.DPITCH_HI`: 43_blt_registers.md R215. -/
  | wBltDpitchHi (data : Byte)
  /-- `R BLT.DPITCH_HI`: 43_blt_registers.md R215. -/
  | rBltDpitchHi (data : Byte)
  /-- `W BLT.SPITCH_LO`: 43_blt_registers.md R216. -/
  | wBltSpitchLo (data : Byte)
  /-- `R BLT.SPITCH_LO`: 43_blt_registers.md R216. -/
  | rBltSpitchLo (data : Byte)
  /-- `W BLT.SPITCH_HI`: 43_blt_registers.md R217. -/
  | wBltSpitchHi (data : Byte)
  /-- `R BLT.SPITCH_HI`: 43_blt_registers.md R217. -/
  | rBltSpitchHi (data : Byte)
  /-- `W BLT.DEST_0`: 43_blt_registers.md R218. -/
  | wBltDest0 (data : Byte)
  /-- `R BLT.DEST_0`: 43_blt_registers.md R218. -/
  | rBltDest0 (data : Byte)
  /-- `W BLT.DEST_1`: 43_blt_registers.md R219. -/
  | wBltDest1 (data : Byte)
  /-- `R BLT.DEST_1`: 43_blt_registers.md R219. -/
  | rBltDest1 (data : Byte)
  /-- `W BLT.DEST_2`: 43_blt_registers.md R220. -/
  | wBltDest2 (data : Byte)
  /-- `R BLT.DEST_2`: 43_blt_registers.md R220. -/
  | rBltDest2 (data : Byte)
  /-- `W BLT.SRC_0`: 43_blt_registers.md R221. -/
  | wBltSrc0 (data : Byte)
  /-- `R BLT.SRC_0`: 43_blt_registers.md R221. -/
  | rBltSrc0 (data : Byte)
  /-- `W BLT.SRC_1`: 43_blt_registers.md R222. -/
  | wBltSrc1 (data : Byte)
  /-- `R BLT.SRC_1`: 43_blt_registers.md R222. -/
  | rBltSrc1 (data : Byte)
  /-- `W BLT.SRC_2`: 43_blt_registers.md R223. -/
  | wBltSrc2 (data : Byte)
  /-- `R BLT.SRC_2`: 43_blt_registers.md R223. -/
  | rBltSrc2 (data : Byte)
  /-- `W BLT.MODE`: 43_blt_registers.md R224. -/
  | wBltMode (data : Byte)
  /-- `R BLT.MODE`: 43_blt_registers.md R224. -/
  | rBltMode (data : Byte)
  /-- `W BLT.STATUS`: 43_blt_registers.md R230. -/
  | wBltStatus (data : Byte)
  /-- `R BLT.STATUS`: 43_blt_registers.md R231. -/
  | rBltStatus (data : Byte)
  /-- `W BLT.ROP`: 43_blt_registers.md R225. -/
  | wBltRop (data : Byte)
  /-- `R BLT.ROP`: 43_blt_registers.md R225. -/
  | rBltRop (data : Byte)
  /-- `W BLT.TCOL_LO`: 43_blt_registers.md R226. -/
  | wBltTcolLo (data : Byte)
  /-- `R BLT.TCOL_LO`: 43_blt_registers.md R226. -/
  | rBltTcolLo (data : Byte)
  /-- `W BLT.TCOL_HI`: 43_blt_registers.md R227. -/
  | wBltTcolHi (data : Byte)
  /-- `R BLT.TCOL_HI`: 43_blt_registers.md R227. -/
  | rBltTcolHi (data : Byte)
  /-- `W BLT.TMASK_LO`: 43_blt_registers.md R228. -/
  | wBltTmaskLo (data : Byte)
  /-- `R BLT.TMASK_LO`: 43_blt_registers.md R228. -/
  | rBltTmaskLo (data : Byte)
  /-- `W BLT.TMASK_HI`: 43_blt_registers.md R229. -/
  | wBltTmaskHi (data : Byte)
  /-- `R BLT.TMASK_HI`: 43_blt_registers.md R229. -/
  | rBltTmaskHi (data : Byte)
  /-- `W BLT.DATA`: 43_blt_registers.md R232. -/
  | wBltData (data : Byte)
  /-- `R BLT.DATA`: 43_blt_registers.md R233. -/
  | rBltData (data : Byte)
  -- bank ports
  /-- `W BANK.RD`: 40_register_file_bank.md R150. -/
  | wBankRd (data : Byte)
  /-- `R BANK.RD`: 40_register_file_bank.md R150. -/
  | rBankRd (data : Byte)
  /-- `W BANK.WR`: 40_register_file_bank.md R151. -/
  | wBankWr (data : Byte)
  /-- `R BANK.WR`: 40_register_file_bank.md R151. -/
  | rBankWr (data : Byte)
  -- apertures
  /-- `W MEM[offset]`: 40_register_file_bank.md R153. -/
  | wMem (offset : Addr) (data : Byte)
  /-- `R MEM[offset]`: 40_register_file_bank.md R152. -/
  | rMem (offset : Addr) (data : Byte)
  /-- `W LFB[offset]`: 40_register_file_bank.md R156. -/
  | wLfb (offset : Addr) (data : Byte)
  /-- `R LFB[offset]`: 40_register_file_bank.md R155. -/
  | rLfb (offset : Addr) (data : Byte)
  -- unassigned indices and ports (R105)
  /-- `W SEQ[unassigned]`: 40_register_file_bank.md R140. -/
  | wSeqUnassigned (addr : Addr) (data : Byte)
  /-- `R SEQ[unassigned]`: 40_register_file_bank.md R140. -/
  | rSeqUnassigned (addr : Addr) (data : Byte)
  /-- `W GC[unassigned]`: 40_register_file_bank.md R141. -/
  | wGcUnassigned (addr : Addr) (data : Byte)
  /-- `R GC[unassigned]`: 40_register_file_bank.md R141. -/
  | rGcUnassigned (addr : Addr) (data : Byte)
  /-- `W CRTC[unassigned]`: 40_register_file_bank.md R146. -/
  | wCrtcUnassigned (addr : Addr) (data : Byte)
  /-- `R CRTC[unassigned]`: 40_register_file_bank.md R146. -/
  | rCrtcUnassigned (addr : Addr) (data : Byte)
  /-- `W DAC[unassigned]`: 41_hidden_dac.md R180. -/
  | wDacUnassigned (addr : Addr) (data : Byte)
  /-- `R DAC[unassigned]`: 41_hidden_dac.md R180. -/
  | rDacUnassigned (addr : Addr) (data : Byte)
  /-- `W BLT[unassigned]`: 43_blt_registers.md R234. -/
  | wBltUnassigned (addr : Addr) (data : Byte)
  /-- `R BLT[unassigned]`: 43_blt_registers.md R234. -/
  | rBltUnassigned (addr : Addr) (data : Byte)
  /-- `W BANK[unassigned]`: 40_register_file_bank.md R154. -/
  | wBankUnassigned (addr : Addr) (data : Byte)
  /-- `R BANK[unassigned]`: 40_register_file_bank.md R154. -/
  | rBankUnassigned (addr : Addr) (data : Byte)
  -- words that are no transaction (R105, R106 step 1)
  /-- an invalid word, table row with mask 0x8000000000: 30_encoding.md R105. -/
  | invalidSpace (word : Txn)
  /-- an invalid word, table row with mask 0x0200000000: 30_encoding.md R105. -/
  | invalidBit33 (word : Txn)
  /-- an invalid word, table row with mask 0x0400000000: 30_encoding.md R105. -/
  | invalidBit34 (word : Txn)
  /-- an invalid word, table row with mask 0x0800000000: 30_encoding.md R105. -/
  | invalidBit35 (word : Txn)
  -- raster operations: the value of `blt.rop` (30_encoding.md R102)
  /-- `ROP.ZERO`: 45_blt_rops.md R290. -/
  | ropZero
  /-- `ROP.AND`: 45_blt_rops.md R291. -/
  | ropAnd
  /-- `ROP.NOP`: 45_blt_rops.md R292. -/
  | ropNop
  /-- `ROP.SRC_AND_NOT_DST`: 45_blt_rops.md R293. -/
  | ropSrcAndNotDst
  /-- `ROP.NOT_DST`: 45_blt_rops.md R294. -/
  | ropNotDst
  /-- `ROP.COPY`: 45_blt_rops.md R295. -/
  | ropCopy
  /-- `ROP.ONE`: 45_blt_rops.md R296. -/
  | ropOne
  /-- `ROP.NOT_SRC_AND_DST`: 45_blt_rops.md R297. -/
  | ropNotSrcAndDst
  /-- `ROP.XOR`: 45_blt_rops.md R298. -/
  | ropXor
  /-- `ROP.OR`: 45_blt_rops.md R299. -/
  | ropOr
  /-- `ROP.NOR`: 45_blt_rops.md R300. -/
  | ropNor
  /-- `ROP.XNOR`: 45_blt_rops.md R301. -/
  | ropXnor
  /-- `ROP.SRC_OR_NOT_DST`: 45_blt_rops.md R302. -/
  | ropSrcOrNotDst
  /-- `ROP.NOT_SRC`: 45_blt_rops.md R303. -/
  | ropNotSrc
  /-- `ROP.NOT_SRC_OR_DST`: 45_blt_rops.md R304. -/
  | ropNotSrcOrDst
  /-- `ROP.NAND`: 45_blt_rops.md R305. -/
  | ropNand
  /-- `ROP.DEFAULT`: 45_blt_rops.md R307. -/
  | ropDefault (code : Byte)
  deriving DecidableEq, Repr

end Sys2Proof
end

