-- ==== Sys2Proof/Machine/Dispatch.lean ====
section
/-! DEFINITION. One arm per instruction, each one call of its meaning. -/

namespace Sys2Proof.Machine

def exec (i : Instr) (s : State) : Host.Outcome State Fault Refusal :=
  match i with
  -- Sequencer extensions
  | .wSeqLock data => Sys2Proof.Machine.execWSeqLock data s
  | .rSeqLock _ => Sys2Proof.Machine.execRSeqLock s
  | .wSeqExtMode data => Sys2Proof.Machine.execWSeqExtMode data s
  | .rSeqExtMode _ => Sys2Proof.Machine.execRSeqExtMode s
  | .wSeqScratch1 data => Sys2Proof.Machine.execWSeqScratch1 data s
  | .rSeqScratch1 _ => Sys2Proof.Machine.execRSeqScratch1 s
  | .wSeqScratch2 data => Sys2Proof.Machine.execWSeqScratch2 data s
  | .rSeqScratch2 _ => Sys2Proof.Machine.execRSeqScratch2 s
  | .wSeqScratch3 data => Sys2Proof.Machine.execWSeqScratch3 data s
  | .rSeqScratch3 _ => Sys2Proof.Machine.execRSeqScratch3 s
  | .wSeqVclkNum0 data => Sys2Proof.Machine.execWSeqVclkNum0 data s
  | .rSeqVclkNum0 _ => Sys2Proof.Machine.execRSeqVclkNum0 s
  | .wSeqVclkNum1 data => Sys2Proof.Machine.execWSeqVclkNum1 data s
  | .rSeqVclkNum1 _ => Sys2Proof.Machine.execRSeqVclkNum1 s
  | .wSeqVclkNum2 data => Sys2Proof.Machine.execWSeqVclkNum2 data s
  | .rSeqVclkNum2 _ => Sys2Proof.Machine.execRSeqVclkNum2 s
  | .wSeqVclkNum3 data => Sys2Proof.Machine.execWSeqVclkNum3 data s
  | .rSeqVclkNum3 _ => Sys2Proof.Machine.execRSeqVclkNum3 s
  | .wSeqVclkDenom0 data => Sys2Proof.Machine.execWSeqVclkDenom0 data s
  | .rSeqVclkDenom0 _ => Sys2Proof.Machine.execRSeqVclkDenom0 s
  | .wSeqVclkDenom1 data => Sys2Proof.Machine.execWSeqVclkDenom1 data s
  | .rSeqVclkDenom1 _ => Sys2Proof.Machine.execRSeqVclkDenom1 s
  | .wSeqVclkDenom2 data => Sys2Proof.Machine.execWSeqVclkDenom2 data s
  | .rSeqVclkDenom2 _ => Sys2Proof.Machine.execRSeqVclkDenom2 s
  | .wSeqVclkDenom3 data => Sys2Proof.Machine.execWSeqVclkDenom3 data s
  | .rSeqVclkDenom3 _ => Sys2Proof.Machine.execRSeqVclkDenom3 s
  | .wSeqCursorX low data => Sys2Proof.Machine.execWSeqCursorX low data s
  | .rSeqCursorX _ _ => Sys2Proof.Machine.execRSeqCursorX s
  | .wSeqCursorY low data => Sys2Proof.Machine.execWSeqCursorY low data s
  | .rSeqCursorY _ _ => Sys2Proof.Machine.execRSeqCursorY s
  | .wSeqCursorAttr data => Sys2Proof.Machine.execWSeqCursorAttr data s
  | .rSeqCursorAttr _ => Sys2Proof.Machine.execRSeqCursorAttr s
  | .wSeqCursorAddr data => Sys2Proof.Machine.execWSeqCursorAddr data s
  | .rSeqCursorAddr _ => Sys2Proof.Machine.execRSeqCursorAddr s
  -- Graphics-Controller extensions
  | .wGcBg0 data => Sys2Proof.Machine.execWGcBg0 data s
  | .rGcBg0 _ => Sys2Proof.Machine.execRGcBg0 s
  | .wGcFg0 data => Sys2Proof.Machine.execWGcFg0 data s
  | .rGcFg0 _ => Sys2Proof.Machine.execRGcFg0 s
  | .wGcModeExt data => Sys2Proof.Machine.execWGcModeExt data s
  | .rGcModeExt _ => Sys2Proof.Machine.execRGcModeExt s
  | .wGcBg1 data => Sys2Proof.Machine.execWGcBg1 data s
  | .rGcBg1 _ => Sys2Proof.Machine.execRGcBg1 s
  | .wGcFg1 data => Sys2Proof.Machine.execWGcFg1 data s
  | .rGcFg1 _ => Sys2Proof.Machine.execRGcFg1 s
  -- CRT-Controller extensions
  | .wCrtcExt19 data => Sys2Proof.Machine.execWCrtcExt19 data s
  | .rCrtcExt19 _ => Sys2Proof.Machine.execRCrtcExt19 s
  | .wCrtcExt1A data => Sys2Proof.Machine.execWCrtcExt1A data s
  | .rCrtcExt1A _ => Sys2Proof.Machine.execRCrtcExt1A s
  | .wCrtcExt1B data => Sys2Proof.Machine.execWCrtcExt1B data s
  | .rCrtcExt1B _ => Sys2Proof.Machine.execRCrtcExt1B s
  | .wCrtcId _ => Sys2Proof.Machine.execWCrtcId s
  | .rCrtcId _ => Sys2Proof.Machine.execRCrtcId s
  -- DAC port family
  | .wDacMask data => Sys2Proof.Machine.execWDacMask data s
  | .rDacMask _ => Sys2Proof.Machine.execRDacMask s
  | .wDacIndexR data => Sys2Proof.Machine.execWDacIndexR data s
  | .rDacIndexR _ => Sys2Proof.Machine.execRDacIndexR s
  | .wDacIndexW data => Sys2Proof.Machine.execWDacIndexW data s
  | .rDacIndexW _ => Sys2Proof.Machine.execRDacIndexW s
  | .wDacData data => Sys2Proof.Machine.execWDacData data s
  | .rDacData _ => Sys2Proof.Machine.execRDacData s
  | .wDacOverlay data => Sys2Proof.Machine.execWDacOverlay data s
  | .rDacOverlay _ => Sys2Proof.Machine.execRDacOverlay s
  -- BitBLT register block
  | .wBltWidthLo data => Sys2Proof.Machine.execWBltWidthLo data s
  | .rBltWidthLo _ => Sys2Proof.Machine.execRBltWidthLo s
  | .wBltWidthHi data => Sys2Proof.Machine.execWBltWidthHi data s
  | .rBltWidthHi _ => Sys2Proof.Machine.execRBltWidthHi s
  | .wBltHeightLo data => Sys2Proof.Machine.execWBltHeightLo data s
  | .rBltHeightLo _ => Sys2Proof.Machine.execRBltHeightLo s
  | .wBltHeightHi data => Sys2Proof.Machine.execWBltHeightHi data s
  | .rBltHeightHi _ => Sys2Proof.Machine.execRBltHeightHi s
  | .wBltDpitchLo data => Sys2Proof.Machine.execWBltDpitchLo data s
  | .rBltDpitchLo _ => Sys2Proof.Machine.execRBltDpitchLo s
  | .wBltDpitchHi data => Sys2Proof.Machine.execWBltDpitchHi data s
  | .rBltDpitchHi _ => Sys2Proof.Machine.execRBltDpitchHi s
  | .wBltSpitchLo data => Sys2Proof.Machine.execWBltSpitchLo data s
  | .rBltSpitchLo _ => Sys2Proof.Machine.execRBltSpitchLo s
  | .wBltSpitchHi data => Sys2Proof.Machine.execWBltSpitchHi data s
  | .rBltSpitchHi _ => Sys2Proof.Machine.execRBltSpitchHi s
  | .wBltDest0 data => Sys2Proof.Machine.execWBltDest0 data s
  | .rBltDest0 _ => Sys2Proof.Machine.execRBltDest0 s
  | .wBltDest1 data => Sys2Proof.Machine.execWBltDest1 data s
  | .rBltDest1 _ => Sys2Proof.Machine.execRBltDest1 s
  | .wBltDest2 data => Sys2Proof.Machine.execWBltDest2 data s
  | .rBltDest2 _ => Sys2Proof.Machine.execRBltDest2 s
  | .wBltSrc0 data => Sys2Proof.Machine.execWBltSrc0 data s
  | .rBltSrc0 _ => Sys2Proof.Machine.execRBltSrc0 s
  | .wBltSrc1 data => Sys2Proof.Machine.execWBltSrc1 data s
  | .rBltSrc1 _ => Sys2Proof.Machine.execRBltSrc1 s
  | .wBltSrc2 data => Sys2Proof.Machine.execWBltSrc2 data s
  | .rBltSrc2 _ => Sys2Proof.Machine.execRBltSrc2 s
  | .wBltMode data => Sys2Proof.Machine.execWBltMode data s
  | .rBltMode _ => Sys2Proof.Machine.execRBltMode s
  | .wBltStatus data => Sys2Proof.Machine.execWBltStatus data s
  | .rBltStatus _ => Sys2Proof.Machine.execRBltStatus s
  | .wBltRop data => Sys2Proof.Machine.execWBltRop data s
  | .rBltRop _ => Sys2Proof.Machine.execRBltRop s
  | .wBltTcolLo data => Sys2Proof.Machine.execWBltTcolLo data s
  | .rBltTcolLo _ => Sys2Proof.Machine.execRBltTcolLo s
  | .wBltTcolHi data => Sys2Proof.Machine.execWBltTcolHi data s
  | .rBltTcolHi _ => Sys2Proof.Machine.execRBltTcolHi s
  | .wBltTmaskLo data => Sys2Proof.Machine.execWBltTmaskLo data s
  | .rBltTmaskLo _ => Sys2Proof.Machine.execRBltTmaskLo s
  | .wBltTmaskHi data => Sys2Proof.Machine.execWBltTmaskHi data s
  | .rBltTmaskHi _ => Sys2Proof.Machine.execRBltTmaskHi s
  | .wBltData data => Sys2Proof.Machine.execWBltData data s
  | .rBltData _ => Sys2Proof.Machine.execRBltData s
  -- bank ports
  | .wBankRd data => Sys2Proof.Machine.execWBankRd data s
  | .rBankRd _ => Sys2Proof.Machine.execRBankRd s
  | .wBankWr data => Sys2Proof.Machine.execWBankWr data s
  | .rBankWr _ => Sys2Proof.Machine.execRBankWr s
  -- apertures
  | .wMem offset data => Sys2Proof.Machine.execWMem offset data s
  | .rMem offset _ => Sys2Proof.Machine.execRMem offset s
  | .wLfb offset data => Sys2Proof.Machine.execWLfb offset data s
  | .rLfb offset _ => Sys2Proof.Machine.execRLfb offset s
  -- unassigned indices and ports (R105)
  | .wSeqUnassigned _ _ => Sys2Proof.Machine.execWSeqUnassigned s
  | .rSeqUnassigned _ _ => Sys2Proof.Machine.execRSeqUnassigned s
  | .wGcUnassigned _ _ => Sys2Proof.Machine.execWGcUnassigned s
  | .rGcUnassigned _ _ => Sys2Proof.Machine.execRGcUnassigned s
  | .wCrtcUnassigned _ _ => Sys2Proof.Machine.execWCrtcUnassigned s
  | .rCrtcUnassigned _ _ => Sys2Proof.Machine.execRCrtcUnassigned s
  | .wDacUnassigned _ _ => Sys2Proof.Machine.execWDacUnassigned s
  | .rDacUnassigned _ _ => Sys2Proof.Machine.execRDacUnassigned s
  | .wBltUnassigned _ _ => Sys2Proof.Machine.execWBltUnassigned s
  | .rBltUnassigned _ _ => Sys2Proof.Machine.execRBltUnassigned s
  | .wBankUnassigned _ _ => Sys2Proof.Machine.execWBankUnassigned s
  | .rBankUnassigned _ _ => Sys2Proof.Machine.execRBankUnassigned s
  -- words that are no transaction (R105, R106 step 1)
  | .invalidSpace _ => Sys2Proof.Machine.execInvalidSpace s
  | .invalidBit33 _ => Sys2Proof.Machine.execInvalidBit33 s
  | .invalidBit34 _ => Sys2Proof.Machine.execInvalidBit34 s
  | .invalidBit35 _ => Sys2Proof.Machine.execInvalidBit35 s
  -- raster operations: the value of `blt.rop` (30_encoding.md R102)
  | .ropZero => Sys2Proof.Machine.execRopZero s
  | .ropAnd => Sys2Proof.Machine.execRopAnd s
  | .ropNop => Sys2Proof.Machine.execRopNop s
  | .ropSrcAndNotDst => Sys2Proof.Machine.execRopSrcAndNotDst s
  | .ropNotDst => Sys2Proof.Machine.execRopNotDst s
  | .ropCopy => Sys2Proof.Machine.execRopCopy s
  | .ropOne => Sys2Proof.Machine.execRopOne s
  | .ropNotSrcAndDst => Sys2Proof.Machine.execRopNotSrcAndDst s
  | .ropXor => Sys2Proof.Machine.execRopXor s
  | .ropOr => Sys2Proof.Machine.execRopOr s
  | .ropNor => Sys2Proof.Machine.execRopNor s
  | .ropXnor => Sys2Proof.Machine.execRopXnor s
  | .ropSrcOrNotDst => Sys2Proof.Machine.execRopSrcOrNotDst s
  | .ropNotSrc => Sys2Proof.Machine.execRopNotSrc s
  | .ropNotSrcOrDst => Sys2Proof.Machine.execRopNotSrcOrDst s
  | .ropNand => Sys2Proof.Machine.execRopNand s
  | .ropDefault code => Sys2Proof.Machine.execRopDefault code s

end Sys2Proof.Machine
end

