-- ==== Sys2Proof/WellFormed.lean ====
section
/-! DEFINITION. Which instruction terms stand for a word: an unassigned index must be unassigned (30_encoding.md R92..R99),
an invalid word must be invalid in the way its row says, with the rows taken in the table's order (R106 step 1), and the
code of the default raster operation must be none of the sixteen (R102). Every other operand value is legal. -/

namespace Sys2Proof

/-- The high part `addr[23:8]` and the index `addr[7:0]` of a register address (30_encoding.md R106). -/
def addrHigh (a : Addr) : BitVec 16 := a.extractLsb' 8 16

/-- The index or port number `addr[7:0]` (30_encoding.md R106). -/
def addrIndex (a : Addr) : Byte := a.extractLsb' 0 8

/-- `index[4:0]`, which the cursor coordinates are decoded by (30_encoding.md R93). -/
def indexLow (i : Byte) : BitVec 5 := i.extractLsb' 0 5

/-- `SEQ` indices with a row (30_encoding.md R92, R93). -/
def seqAssigned (a : Addr) : Bool :=
  addrHigh a == 0 && (indexLow (addrIndex a) == 0x10 || indexLow (addrIndex a) == 0x11 ||
    ([0x06, 0x07, 0x09, 0x0A, 0x0B, 0x0C, 0x0D, 0x0E, 0x12, 0x13, 0x14, 0x1B, 0x1C, 0x1D, 0x1E] : List Byte).contains (addrIndex a))

/-- `GC` indices with a row (30_encoding.md R94). -/
def gcAssigned (a : Addr) : Bool :=
  addrHigh a == 0 && ([0x00, 0x01, 0x0B, 0x10, 0x11] : List Byte).contains (addrIndex a)

/-- `CRTC` indices with a row (30_encoding.md R96). -/
def crtcAssigned (a : Addr) : Bool :=
  addrHigh a == 0 && ([0x19, 0x1A, 0x1B, 0x27] : List Byte).contains (addrIndex a)

/-- `DAC` ports with a row (30_encoding.md R97). -/
def dacAssigned (a : Addr) : Bool :=
  addrHigh a == 0 && ([0x00, 0x01, 0x02, 0x03, 0x04] : List Byte).contains (addrIndex a)

/-- `BLT` indices with a row (30_encoding.md R98). -/
def bltAssigned (a : Addr) : Bool :=
  addrHigh a == 0 &&
    ([0x20, 0x21, 0x22, 0x23, 0x24, 0x25, 0x26, 0x27, 0x28, 0x29, 0x2A, 0x2C, 0x2D, 0x2E, 0x30, 0x31, 0x32, 0x34,
      0x35, 0x38, 0x39, 0x3F] : List Byte).contains (addrIndex a)

/-- `BANK` ports with a row (30_encoding.md R99). -/
def bankAssigned (a : Addr) : Bool :=
  addrHigh a == 0 && ([0x00, 0x01] : List Byte).contains (addrIndex a)

/-- The instruction term is the meaning of some word. -/
def Instr.wf : Instr → Bool
  | .wSeqLock _ => true
  | .rSeqLock _ => true
  | .wSeqExtMode _ => true
  | .rSeqExtMode _ => true
  | .wSeqScratch1 _ => true
  | .rSeqScratch1 _ => true
  | .wSeqScratch2 _ => true
  | .rSeqScratch2 _ => true
  | .wSeqScratch3 _ => true
  | .rSeqScratch3 _ => true
  | .wSeqVclkNum0 _ => true
  | .rSeqVclkNum0 _ => true
  | .wSeqVclkNum1 _ => true
  | .rSeqVclkNum1 _ => true
  | .wSeqVclkNum2 _ => true
  | .rSeqVclkNum2 _ => true
  | .wSeqVclkNum3 _ => true
  | .rSeqVclkNum3 _ => true
  | .wSeqVclkDenom0 _ => true
  | .rSeqVclkDenom0 _ => true
  | .wSeqVclkDenom1 _ => true
  | .rSeqVclkDenom1 _ => true
  | .wSeqVclkDenom2 _ => true
  | .rSeqVclkDenom2 _ => true
  | .wSeqVclkDenom3 _ => true
  | .rSeqVclkDenom3 _ => true
  | .wSeqCursorX _ _ => true
  | .rSeqCursorX _ _ => true
  | .wSeqCursorY _ _ => true
  | .rSeqCursorY _ _ => true
  | .wSeqCursorAttr _ => true
  | .rSeqCursorAttr _ => true
  | .wSeqCursorAddr _ => true
  | .rSeqCursorAddr _ => true
  | .wGcBg0 _ => true
  | .rGcBg0 _ => true
  | .wGcFg0 _ => true
  | .rGcFg0 _ => true
  | .wGcModeExt _ => true
  | .rGcModeExt _ => true
  | .wGcBg1 _ => true
  | .rGcBg1 _ => true
  | .wGcFg1 _ => true
  | .rGcFg1 _ => true
  | .wCrtcExt19 _ => true
  | .rCrtcExt19 _ => true
  | .wCrtcExt1A _ => true
  | .rCrtcExt1A _ => true
  | .wCrtcExt1B _ => true
  | .rCrtcExt1B _ => true
  | .wCrtcId _ => true
  | .rCrtcId _ => true
  | .wDacMask _ => true
  | .rDacMask _ => true
  | .wDacIndexR _ => true
  | .rDacIndexR _ => true
  | .wDacIndexW _ => true
  | .rDacIndexW _ => true
  | .wDacData _ => true
  | .rDacData _ => true
  | .wDacOverlay _ => true
  | .rDacOverlay _ => true
  | .wBltWidthLo _ => true
  | .rBltWidthLo _ => true
  | .wBltWidthHi _ => true
  | .rBltWidthHi _ => true
  | .wBltHeightLo _ => true
  | .rBltHeightLo _ => true
  | .wBltHeightHi _ => true
  | .rBltHeightHi _ => true
  | .wBltDpitchLo _ => true
  | .rBltDpitchLo _ => true
  | .wBltDpitchHi _ => true
  | .rBltDpitchHi _ => true
  | .wBltSpitchLo _ => true
  | .rBltSpitchLo _ => true
  | .wBltSpitchHi _ => true
  | .rBltSpitchHi _ => true
  | .wBltDest0 _ => true
  | .rBltDest0 _ => true
  | .wBltDest1 _ => true
  | .rBltDest1 _ => true
  | .wBltDest2 _ => true
  | .rBltDest2 _ => true
  | .wBltSrc0 _ => true
  | .rBltSrc0 _ => true
  | .wBltSrc1 _ => true
  | .rBltSrc1 _ => true
  | .wBltSrc2 _ => true
  | .rBltSrc2 _ => true
  | .wBltMode _ => true
  | .rBltMode _ => true
  | .wBltStatus _ => true
  | .rBltStatus _ => true
  | .wBltRop _ => true
  | .rBltRop _ => true
  | .wBltTcolLo _ => true
  | .rBltTcolLo _ => true
  | .wBltTcolHi _ => true
  | .rBltTcolHi _ => true
  | .wBltTmaskLo _ => true
  | .rBltTmaskLo _ => true
  | .wBltTmaskHi _ => true
  | .rBltTmaskHi _ => true
  | .wBltData _ => true
  | .rBltData _ => true
  | .wBankRd _ => true
  | .rBankRd _ => true
  | .wBankWr _ => true
  | .rBankWr _ => true
  | .wMem _ _ => true
  | .rMem _ _ => true
  | .wLfb _ _ => true
  | .rLfb _ _ => true
  | .wSeqUnassigned addr _ => !seqAssigned addr
  | .rSeqUnassigned addr _ => !seqAssigned addr
  | .wGcUnassigned addr _ => !gcAssigned addr
  | .rGcUnassigned addr _ => !gcAssigned addr
  | .wCrtcUnassigned addr _ => !crtcAssigned addr
  | .rCrtcUnassigned addr _ => !crtcAssigned addr
  | .wDacUnassigned addr _ => !dacAssigned addr
  | .rDacUnassigned addr _ => !dacAssigned addr
  | .wBltUnassigned addr _ => !bltAssigned addr
  | .rBltUnassigned addr _ => !bltAssigned addr
  | .wBankUnassigned addr _ => !bankAssigned addr
  | .rBankUnassigned addr _ => !bankAssigned addr
  | .invalidSpace word => word.getLsbD 39
  | .invalidBit33 word => !word.getLsbD 39 && word.getLsbD 33
  | .invalidBit34 word => !word.getLsbD 39 && !word.getLsbD 33 && word.getLsbD 34
  | .invalidBit35 word => !word.getLsbD 39 && !word.getLsbD 33 && !word.getLsbD 34 && word.getLsbD 35
  | .ropZero => true
  | .ropAnd => true
  | .ropNop => true
  | .ropSrcAndNotDst => true
  | .ropNotDst => true
  | .ropCopy => true
  | .ropOne => true
  | .ropNotSrcAndDst => true
  | .ropXor => true
  | .ropOr => true
  | .ropNor => true
  | .ropXnor => true
  | .ropSrcOrNotDst => true
  | .ropNotSrc => true
  | .ropNotSrcOrDst => true
  | .ropNand => true
  | .ropDefault code => !Config.allRops.contains code

end Sys2Proof
end

