-- ==== Sys2Proof/Decode.lean ====
section
/-! DEFINITION. The decoder (30_encoding.md R106: total on any 40-bit word; rows of the ROP format on any value of
`blt.rop`, R102) and, after it, the encoder written from the same tables. No word is rejected: an invalid word is a row of
the opcode table (R105) and decodes to that row's instruction. -/

namespace Sys2Proof

/-- The two formats of the opcode table: a transaction word (30_encoding.md R90) and the value of `blt.rop` (R102). -/
inductive Code where
  | txn (word : Txn)
  | rop (code : Byte)
  deriving DecidableEq, Repr

/-- The `SEQ` space (30_encoding.md R92, R93, R106 step 4): the cursor coordinates are tested first, by `index[4:0]`. -/
def decodeSeq (rw : Bool) (addr : Addr) (data : Byte) : Instr :=
  if addrHigh addr = 0 then
    if indexLow (addrIndex addr) = 0x10 then
      if rw then .wSeqCursorX (addr.extractLsb' 5 3) data else .rSeqCursorX (addr.extractLsb' 5 3) data
    else if indexLow (addrIndex addr) = 0x11 then
      if rw then .wSeqCursorY (addr.extractLsb' 5 3) data else .rSeqCursorY (addr.extractLsb' 5 3) data
    else
    match (addrIndex addr).toNat with
    | 0x06 => if rw then .wSeqLock data else .rSeqLock data
    | 0x07 => if rw then .wSeqExtMode data else .rSeqExtMode data
    | 0x09 => if rw then .wSeqScratch1 data else .rSeqScratch1 data
    | 0x0A => if rw then .wSeqScratch2 data else .rSeqScratch2 data
    | 0x0B => if rw then .wSeqVclkNum0 data else .rSeqVclkNum0 data
    | 0x0C => if rw then .wSeqVclkNum1 data else .rSeqVclkNum1 data
    | 0x0D => if rw then .wSeqVclkNum2 data else .rSeqVclkNum2 data
    | 0x0E => if rw then .wSeqVclkNum3 data else .rSeqVclkNum3 data
    | 0x12 => if rw then .wSeqCursorAttr data else .rSeqCursorAttr data
    | 0x13 => if rw then .wSeqCursorAddr data else .rSeqCursorAddr data
    | 0x14 => if rw then .wSeqScratch3 data else .rSeqScratch3 data
    | 0x1B => if rw then .wSeqVclkDenom0 data else .rSeqVclkDenom0 data
    | 0x1C => if rw then .wSeqVclkDenom1 data else .rSeqVclkDenom1 data
    | 0x1D => if rw then .wSeqVclkDenom2 data else .rSeqVclkDenom2 data
    | 0x1E => if rw then .wSeqVclkDenom3 data else .rSeqVclkDenom3 data
    | _ => if rw then .wSeqUnassigned addr data else .rSeqUnassigned addr data
  else if rw then .wSeqUnassigned addr data else .rSeqUnassigned addr data

/-- The `GC` space (30_encoding.md R94, R106 step 4). -/
def decodeGc (rw : Bool) (addr : Addr) (data : Byte) : Instr :=
  if addrHigh addr = 0 then
    match (addrIndex addr).toNat with
    | 0x00 => if rw then .wGcBg0 data else .rGcBg0 data
    | 0x01 => if rw then .wGcFg0 data else .rGcFg0 data
    | 0x0B => if rw then .wGcModeExt data else .rGcModeExt data
    | 0x10 => if rw then .wGcBg1 data else .rGcBg1 data
    | 0x11 => if rw then .wGcFg1 data else .rGcFg1 data
    | _ => if rw then .wGcUnassigned addr data else .rGcUnassigned addr data
  else if rw then .wGcUnassigned addr data else .rGcUnassigned addr data

/-- The `CRTC` space (30_encoding.md R96, R106 step 4). -/
def decodeCrtc (rw : Bool) (addr : Addr) (data : Byte) : Instr :=
  if addrHigh addr = 0 then
    match (addrIndex addr).toNat with
    | 0x19 => if rw then .wCrtcExt19 data else .rCrtcExt19 data
    | 0x1A => if rw then .wCrtcExt1A data else .rCrtcExt1A data
    | 0x1B => if rw then .wCrtcExt1B data else .rCrtcExt1B data
    | 0x27 => if rw then .wCrtcId data else .rCrtcId data
    | _ => if rw then .wCrtcUnassigned addr data else .rCrtcUnassigned addr data
  else if rw then .wCrtcUnassigned addr data else .rCrtcUnassigned addr data

/-- The `DAC` space (30_encoding.md R97, R106 step 3). -/
def decodeDac (rw : Bool) (addr : Addr) (data : Byte) : Instr :=
  if addrHigh addr = 0 then
    match (addrIndex addr).toNat with
    | 0x00 => if rw then .wDacMask data else .rDacMask data
    | 0x01 => if rw then .wDacIndexR data else .rDacIndexR data
    | 0x02 => if rw then .wDacIndexW data else .rDacIndexW data
    | 0x03 => if rw then .wDacData data else .rDacData data
    | 0x04 => if rw then .wDacOverlay data else .rDacOverlay data
    | _ => if rw then .wDacUnassigned addr data else .rDacUnassigned addr data
  else if rw then .wDacUnassigned addr data else .rDacUnassigned addr data

/-- The `BLT` space (30_encoding.md R98, R106 step 4). -/
def decodeBlt (rw : Bool) (addr : Addr) (data : Byte) : Instr :=
  if addrHigh addr = 0 then
    match (addrIndex addr).toNat with
    | 0x20 => if rw then .wBltWidthLo data else .rBltWidthLo data
    | 0x21 => if rw then .wBltWidthHi data else .rBltWidthHi data
    | 0x22 => if rw then .wBltHeightLo data else .rBltHeightLo data
    | 0x23 => if rw then .wBltHeightHi data else .rBltHeightHi data
    | 0x24 => if rw then .wBltDpitchLo data else .rBltDpitchLo data
    | 0x25 => if rw then .wBltDpitchHi data else .rBltDpitchHi data
    | 0x26 => if rw then .wBltSpitchLo data else .rBltSpitchLo data
    | 0x27 => if rw then .wBltSpitchHi data else .rBltSpitchHi data
    | 0x28 => if rw then .wBltDest0 data else .rBltDest0 data
    | 0x29 => if rw then .wBltDest1 data else .rBltDest1 data
    | 0x2A => if rw then .wBltDest2 data else .rBltDest2 data
    | 0x2C => if rw then .wBltSrc0 data else .rBltSrc0 data
    | 0x2D => if rw then .wBltSrc1 data else .rBltSrc1 data
    | 0x2E => if rw then .wBltSrc2 data else .rBltSrc2 data
    | 0x30 => if rw then .wBltMode data else .rBltMode data
    | 0x31 => if rw then .wBltStatus data else .rBltStatus data
    | 0x32 => if rw then .wBltRop data else .rBltRop data
    | 0x34 => if rw then .wBltTcolLo data else .rBltTcolLo data
    | 0x35 => if rw then .wBltTcolHi data else .rBltTcolHi data
    | 0x38 => if rw then .wBltTmaskLo data else .rBltTmaskLo data
    | 0x39 => if rw then .wBltTmaskHi data else .rBltTmaskHi data
    | 0x3F => if rw then .wBltData data else .rBltData data
    | _ => if rw then .wBltUnassigned addr data else .rBltUnassigned addr data
  else if rw then .wBltUnassigned addr data else .rBltUnassigned addr data

/-- The `BANK` space (30_encoding.md R99, R106 step 3). -/
def decodeBank (rw : Bool) (addr : Addr) (data : Byte) : Instr :=
  if addrHigh addr = 0 then
    match (addrIndex addr).toNat with
    | 0x00 => if rw then .wBankRd data else .rBankRd data
    | 0x01 => if rw then .wBankWr data else .rBankWr data
    | _ => if rw then .wBankUnassigned addr data else .rBankUnassigned addr data
  else if rw then .wBankUnassigned addr data else .rBankUnassigned addr data

/-- The instruction a transaction word stands for (30_encoding.md R90, R91, R106). Step 1 (the priority-0 rows of the
table) comes first; after it the space is below 8. -/
def decodeTxn (word : Txn) : Instr :=
  if word.getLsbD 39 then .invalidSpace word
  else if word.getLsbD 33 then .invalidBit33 word
  else if word.getLsbD 34 then .invalidBit34 word
  else if word.getLsbD 35 then .invalidBit35 word
  else
    let rw := word.getLsbD 32
    let addr : Addr := word.extractLsb' 8 24
    let data : Byte := word.extractLsb' 0 8
    match (word.extractLsb' 36 3).toNat with
    | 0 => if rw then .wMem addr data else .rMem addr data
    | 1 => if rw then .wLfb addr data else .rLfb addr data
    | 2 => decodeSeq rw addr data
    | 3 => decodeGc rw addr data
    | 4 => decodeCrtc rw addr data
    | 5 => decodeDac rw addr data
    | 6 => decodeBlt rw addr data
    | _ => decodeBank rw addr data

/-- The raster-operation row a value of `blt.rop` selects (30_encoding.md R102). -/
def decodeRop (code : Byte) : Instr :=
  match code.toNat with
  | 0x00 => .ropZero
  | 0x05 => .ropAnd
  | 0x06 => .ropNop
  | 0x09 => .ropSrcAndNotDst
  | 0x0B => .ropNotDst
  | 0x0D => .ropCopy
  | 0x0E => .ropOne
  | 0x50 => .ropNotSrcAndDst
  | 0x59 => .ropXor
  | 0x6D => .ropOr
  | 0x90 => .ropNor
  | 0x95 => .ropXnor
  | 0xAD => .ropSrcOrNotDst
  | 0xD0 => .ropNotSrc
  | 0xD6 => .ropNotSrcOrDst
  | 0xDA => .ropNand
  | _ => .ropDefault code

/-- The instruction of a word of either format. -/
def decode : Code → Instr
  | .txn word => decodeTxn word
  | .rop code => decodeRop code

/-- The decoder on an instruction of spec/opcode_table.json given as its bits: rows of 8 bits are of the ROP format,
wider rows (40 bits) are transaction words; a longer instruction does not exist. -/
def decodeTableWord (nbits w : Nat) : Option Instr :=
  if nbits ≤ 8 then some (decode (.rop (BitVec.ofNat 8 w)))
  else if nbits ≤ 40 then some (decode (.txn (BitVec.ofNat 40 w)))
  else none

/-- A transaction word from its fields (30_encoding.md R90): `T[39:36]` space, `T[35:33]` zero, `T[32]` rw, `T[31:8]`
addr, `T[7:0]` data. -/
def txnWord (space : BitVec 4) (rw : Bool) (addr : Addr) (data : Byte) : Txn :=
  space ++ 0#3 ++ BitVec.ofBool rw ++ addr ++ data

/-- The address field of a register transaction: `addr[23:8] = 0`, the index in `addr[7:0]` (30_encoding.md R90). -/
def indexAddr (i : Byte) : Addr := 0#16 ++ i

/-- The word of a well-formed instruction (30_encoding.md R90..R99, R102). -/
def encode : Instr → Code
  | .wSeqLock data => .txn (txnWord 2 true (indexAddr 0x06) data)
  | .rSeqLock data => .txn (txnWord 2 false (indexAddr 0x06) data)
  | .wSeqExtMode data => .txn (txnWord 2 true (indexAddr 0x07) data)
  | .rSeqExtMode data => .txn (txnWord 2 false (indexAddr 0x07) data)
  | .wSeqScratch1 data => .txn (txnWord 2 true (indexAddr 0x09) data)
  | .rSeqScratch1 data => .txn (txnWord 2 false (indexAddr 0x09) data)
  | .wSeqScratch2 data => .txn (txnWord 2 true (indexAddr 0x0A) data)
  | .rSeqScratch2 data => .txn (txnWord 2 false (indexAddr 0x0A) data)
  | .wSeqScratch3 data => .txn (txnWord 2 true (indexAddr 0x14) data)
  | .rSeqScratch3 data => .txn (txnWord 2 false (indexAddr 0x14) data)
  | .wSeqVclkNum0 data => .txn (txnWord 2 true (indexAddr 0x0B) data)
  | .rSeqVclkNum0 data => .txn (txnWord 2 false (indexAddr 0x0B) data)
  | .wSeqVclkNum1 data => .txn (txnWord 2 true (indexAddr 0x0C) data)
  | .rSeqVclkNum1 data => .txn (txnWord 2 false (indexAddr 0x0C) data)
  | .wSeqVclkNum2 data => .txn (txnWord 2 true (indexAddr 0x0D) data)
  | .rSeqVclkNum2 data => .txn (txnWord 2 false (indexAddr 0x0D) data)
  | .wSeqVclkNum3 data => .txn (txnWord 2 true (indexAddr 0x0E) data)
  | .rSeqVclkNum3 data => .txn (txnWord 2 false (indexAddr 0x0E) data)
  | .wSeqVclkDenom0 data => .txn (txnWord 2 true (indexAddr 0x1B) data)
  | .rSeqVclkDenom0 data => .txn (txnWord 2 false (indexAddr 0x1B) data)
  | .wSeqVclkDenom1 data => .txn (txnWord 2 true (indexAddr 0x1C) data)
  | .rSeqVclkDenom1 data => .txn (txnWord 2 false (indexAddr 0x1C) data)
  | .wSeqVclkDenom2 data => .txn (txnWord 2 true (indexAddr 0x1D) data)
  | .rSeqVclkDenom2 data => .txn (txnWord 2 false (indexAddr 0x1D) data)
  | .wSeqVclkDenom3 data => .txn (txnWord 2 true (indexAddr 0x1E) data)
  | .rSeqVclkDenom3 data => .txn (txnWord 2 false (indexAddr 0x1E) data)
  | .wSeqCursorX low data => .txn (txnWord 2 true (indexAddr (low ++ 0x10#5)) data)
  | .rSeqCursorX low data => .txn (txnWord 2 false (indexAddr (low ++ 0x10#5)) data)
  | .wSeqCursorY low data => .txn (txnWord 2 true (indexAddr (low ++ 0x11#5)) data)
  | .rSeqCursorY low data => .txn (txnWord 2 false (indexAddr (low ++ 0x11#5)) data)
  | .wSeqCursorAttr data => .txn (txnWord 2 true (indexAddr 0x12) data)
  | .rSeqCursorAttr data => .txn (txnWord 2 false (indexAddr 0x12) data)
  | .wSeqCursorAddr data => .txn (txnWord 2 true (indexAddr 0x13) data)
  | .rSeqCursorAddr data => .txn (txnWord 2 false (indexAddr 0x13) data)
  | .wGcBg0 data => .txn (txnWord 3 true (indexAddr 0x00) data)
  | .rGcBg0 data => .txn (txnWord 3 false (indexAddr 0x00) data)
  | .wGcFg0 data => .txn (txnWord 3 true (indexAddr 0x01) data)
  | .rGcFg0 data => .txn (txnWord 3 false (indexAddr 0x01) data)
  | .wGcModeExt data => .txn (txnWord 3 true (indexAddr 0x0B) data)
  | .rGcModeExt data => .txn (txnWord 3 false (indexAddr 0x0B) data)
  | .wGcBg1 data => .txn (txnWord 3 true (indexAddr 0x10) data)
  | .rGcBg1 data => .txn (txnWord 3 false (indexAddr 0x10) data)
  | .wGcFg1 data => .txn (txnWord 3 true (indexAddr 0x11) data)
  | .rGcFg1 data => .txn (txnWord 3 false (indexAddr 0x11) data)
  | .wCrtcExt19 data => .txn (txnWord 4 true (indexAddr 0x19) data)
  | .rCrtcExt19 data => .txn (txnWord 4 false (indexAddr 0x19) data)
  | .wCrtcExt1A data => .txn (txnWord 4 true (indexAddr 0x1A) data)
  | .rCrtcExt1A data => .txn (txnWord 4 false (indexAddr 0x1A) data)
  | .wCrtcExt1B data => .txn (txnWord 4 true (indexAddr 0x1B) data)
  | .rCrtcExt1B data => .txn (txnWord 4 false (indexAddr 0x1B) data)
  | .wCrtcId data => .txn (txnWord 4 true (indexAddr 0x27) data)
  | .rCrtcId data => .txn (txnWord 4 false (indexAddr 0x27) data)
  | .wDacMask data => .txn (txnWord 5 true (indexAddr 0x00) data)
  | .rDacMask data => .txn (txnWord 5 false (indexAddr 0x00) data)
  | .wDacIndexR data => .txn (txnWord 5 true (indexAddr 0x01) data)
  | .rDacIndexR data => .txn (txnWord 5 false (indexAddr 0x01) data)
  | .wDacIndexW data => .txn (txnWord 5 true (indexAddr 0x02) data)
  | .rDacIndexW data => .txn (txnWord 5 false (indexAddr 0x02) data)
  | .wDacData data => .txn (txnWord 5 true (indexAddr 0x03) data)
  | .rDacData data => .txn (txnWord 5 false (indexAddr 0x03) data)
  | .wDacOverlay data => .txn (txnWord 5 true (indexAddr 0x04) data)
  | .rDacOverlay data => .txn (txnWord 5 false (indexAddr 0x04) data)
  | .wBltWidthLo data => .txn (txnWord 6 true (indexAddr 0x20) data)
  | .rBltWidthLo data => .txn (txnWord 6 false (indexAddr 0x20) data)
  | .wBltWidthHi data => .txn (txnWord 6 true (indexAddr 0x21) data)
  | .rBltWidthHi data => .txn (txnWord 6 false (indexAddr 0x21) data)
  | .wBltHeightLo data => .txn (txnWord 6 true (indexAddr 0x22) data)
  | .rBltHeightLo data => .txn (txnWord 6 false (indexAddr 0x22) data)
  | .wBltHeightHi data => .txn (txnWord 6 true (indexAddr 0x23) data)
  | .rBltHeightHi data => .txn (txnWord 6 false (indexAddr 0x23) data)
  | .wBltDpitchLo data => .txn (txnWord 6 true (indexAddr 0x24) data)
  | .rBltDpitchLo data => .txn (txnWord 6 false (indexAddr 0x24) data)
  | .wBltDpitchHi data => .txn (txnWord 6 true (indexAddr 0x25) data)
  | .rBltDpitchHi data => .txn (txnWord 6 false (indexAddr 0x25) data)
  | .wBltSpitchLo data => .txn (txnWord 6 true (indexAddr 0x26) data)
  | .rBltSpitchLo data => .txn (txnWord 6 false (indexAddr 0x26) data)
  | .wBltSpitchHi data => .txn (txnWord 6 true (indexAddr 0x27) data)
  | .rBltSpitchHi data => .txn (txnWord 6 false (indexAddr 0x27) data)
  | .wBltDest0 data => .txn (txnWord 6 true (indexAddr 0x28) data)
  | .rBltDest0 data => .txn (txnWord 6 false (indexAddr 0x28) data)
  | .wBltDest1 data => .txn (txnWord 6 true (indexAddr 0x29) data)
  | .rBltDest1 data => .txn (txnWord 6 false (indexAddr 0x29) data)
  | .wBltDest2 data => .txn (txnWord 6 true (indexAddr 0x2A) data)
  | .rBltDest2 data => .txn (txnWord 6 false (indexAddr 0x2A) data)
  | .wBltSrc0 data => .txn (txnWord 6 true (indexAddr 0x2C) data)
  | .rBltSrc0 data => .txn (txnWord 6 false (indexAddr 0x2C) data)
  | .wBltSrc1 data => .txn (txnWord 6 true (indexAddr 0x2D) data)
  | .rBltSrc1 data => .txn (txnWord 6 false (indexAddr 0x2D) data)
  | .wBltSrc2 data => .txn (txnWord 6 true (indexAddr 0x2E) data)
  | .rBltSrc2 data => .txn (txnWord 6 false (indexAddr 0x2E) data)
  | .wBltMode data => .txn (txnWord 6 true (indexAddr 0x30) data)
  | .rBltMode data => .txn (txnWord 6 false (indexAddr 0x30) data)
  | .wBltStatus data => .txn (txnWord 6 true (indexAddr 0x31) data)
  | .rBltStatus data => .txn (txnWord 6 false (indexAddr 0x31) data)
  | .wBltRop data => .txn (txnWord 6 true (indexAddr 0x32) data)
  | .rBltRop data => .txn (txnWord 6 false (indexAddr 0x32) data)
  | .wBltTcolLo data => .txn (txnWord 6 true (indexAddr 0x34) data)
  | .rBltTcolLo data => .txn (txnWord 6 false (indexAddr 0x34) data)
  | .wBltTcolHi data => .txn (txnWord 6 true (indexAddr 0x35) data)
  | .rBltTcolHi data => .txn (txnWord 6 false (indexAddr 0x35) data)
  | .wBltTmaskLo data => .txn (txnWord 6 true (indexAddr 0x38) data)
  | .rBltTmaskLo data => .txn (txnWord 6 false (indexAddr 0x38) data)
  | .wBltTmaskHi data => .txn (txnWord 6 true (indexAddr 0x39) data)
  | .rBltTmaskHi data => .txn (txnWord 6 false (indexAddr 0x39) data)
  | .wBltData data => .txn (txnWord 6 true (indexAddr 0x3F) data)
  | .rBltData data => .txn (txnWord 6 false (indexAddr 0x3F) data)
  | .wBankRd data => .txn (txnWord 7 true (indexAddr 0x00) data)
  | .rBankRd data => .txn (txnWord 7 false (indexAddr 0x00) data)
  | .wBankWr data => .txn (txnWord 7 true (indexAddr 0x01) data)
  | .rBankWr data => .txn (txnWord 7 false (indexAddr 0x01) data)
  | .wMem offset data => .txn (txnWord 0 true offset data)
  | .rMem offset data => .txn (txnWord 0 false offset data)
  | .wLfb offset data => .txn (txnWord 1 true offset data)
  | .rLfb offset data => .txn (txnWord 1 false offset data)
  | .wSeqUnassigned addr data => .txn (txnWord 2 true addr data)
  | .rSeqUnassigned addr data => .txn (txnWord 2 false addr data)
  | .wGcUnassigned addr data => .txn (txnWord 3 true addr data)
  | .rGcUnassigned addr data => .txn (txnWord 3 false addr data)
  | .wCrtcUnassigned addr data => .txn (txnWord 4 true addr data)
  | .rCrtcUnassigned addr data => .txn (txnWord 4 false addr data)
  | .wDacUnassigned addr data => .txn (txnWord 5 true addr data)
  | .rDacUnassigned addr data => .txn (txnWord 5 false addr data)
  | .wBltUnassigned addr data => .txn (txnWord 6 true addr data)
  | .rBltUnassigned addr data => .txn (txnWord 6 false addr data)
  | .wBankUnassigned addr data => .txn (txnWord 7 true addr data)
  | .rBankUnassigned addr data => .txn (txnWord 7 false addr data)
  | .invalidSpace word => .txn word
  | .invalidBit33 word => .txn word
  | .invalidBit34 word => .txn word
  | .invalidBit35 word => .txn word
  | .ropZero => .rop 0x00
  | .ropAnd => .rop 0x05
  | .ropNop => .rop 0x06
  | .ropSrcAndNotDst => .rop 0x09
  | .ropNotDst => .rop 0x0B
  | .ropCopy => .rop 0x0D
  | .ropOne => .rop 0x0E
  | .ropNotSrcAndDst => .rop 0x50
  | .ropXor => .rop 0x59
  | .ropOr => .rop 0x6D
  | .ropNor => .rop 0x90
  | .ropXnor => .rop 0x95
  | .ropSrcOrNotDst => .rop 0xAD
  | .ropNotSrc => .rop 0xD0
  | .ropNotSrcOrDst => .rop 0xD6
  | .ropNand => .rop 0xDA
  | .ropDefault code => .rop code

end Sys2Proof
end

