-- ==== Sys2Proof/Machine/Fetch.lean ====
section
/-! DEFINITION. Where the next instruction comes from. The block fetches nothing of its own (60_exceptions.md header): the
host issues transactions (00_scope.md R8). Inside a VRAM transfer the engine's raster operation is selected by `blt.rop`
(20_memory.md R75: read live at each byte operation). DESIGN CHOICE, notes/assumptions/2.md, 5.md and 6.md. -/

namespace Sys2Proof.Machine

/-- The next instruction as a code, with the state it runs in; none where the next step runs no instruction. A pending
reset goes first; a VRAM transfer in progress goes before any transaction (it never is in progress between two
transactions, 44_blt_engine.md R250); else the oldest pending transaction. -/
def fetch (s : State) : Option (Code × State) :=
  match s.pending, s.blt.fsm with
  | .reset :: _, _ => none
  | _, .armed => none
  | _, .xferVram => some (.rop s.blt.rop, s)
  | .txn word :: rest, _ => some (.txn word, takeEvent rest s)
  | [], _ => none

/-- A step that runs no instruction: the device is reset; or the engine leaves ARMED (44_blt_engine.md R250; never between
two transactions); or nothing is pending and nothing happens. -/
def stepWithout (s : State) : State :=
  match s.pending, s.blt.fsm with
  | .reset :: rest, _ => deviceReset (takeEvent rest s)
  | _, .armed => leaveArmed s
  | _, _ => s

/-- The engine's state with no VRAM transfer in the way of the host (10_state.md R40). -/
def hostFsm (f : BltFsm) : BltFsm :=
  match f with
  | .armed | .xferVram => .idle
  | .idle | .xferSys => f

/-- The state in which the instruction of `nbits` bits `w` is the next to run: a transaction is issued before all pending
ones; a raster operation is in `blt.rop` with a VRAM transfer in progress and no reset pending. -/
def placeWord (s : State) (nbits w : Nat) : State :=
  if nbits ≤ 8 then
    { s with pending := [], blt := { s.blt with rop := BitVec.ofNat 8 w, fsm := .xferVram } }
  else
    { s with pending := .txn (BitVec.ofNat 40 w) :: s.pending, blt := { s.blt with fsm := hostFsm s.blt.fsm } }

end Sys2Proof.Machine
end

