-- ==== Sys2Proof/Machine/Step.lean ====
section
/-! DEFINITION. One step: the next instruction is fetched, decoded and executed; without one, the device is reset, or
nothing happens. -/

namespace Sys2Proof.Machine

/-- One step of the machine (00_scope.md R8: one transaction, atomic). -/
def step (s : State) : Host.Outcome State Fault Refusal :=
  match fetch s with
  | some (code, t) => exec (decode code) t
  | none => .next (stepWithout s)

/-- The state whose next step runs the instruction of `nbits` bits `w` (numbered as spec/opcode_table.json numbers them). -/
def State.withFetchWord (s : State) (nbits w : Nat) : State := placeWord s nbits w

end Sys2Proof.Machine
end

