-- ==== Sys2Proof/Machine/Display.lean ====
section
/-! DEFINITION. What the screen compositor reads and no transaction does: the cursor overlay (42_cursor_overlay.md
R196..R199, R204), the overscan colour (R199) and the display mode (10_state.md R24). All are pure functions of the
state. -/

namespace Sys2Proof

/-- A display mode: resolution and depth (10_state.md R24). -/
structure DisplayMode where
  columns : Nat
  rows : Nat
  depth : Nat
  deriving DecidableEq, Repr, Inhabited

/-- `DisplayMode(s.rf, s.hdac, VARIANT)` (10_state.md R24, D29): an external pure function the compositor owns. The spec
gives no resolution or depth, so it has no body. -/
opaque Config.displayMode : Machine.RegFile → Machine.HiddenDac → Variant → DisplayMode

namespace Machine

/-- The display mode of a state (10_state.md R24; 40_register_file_bank.md R129). -/
def displayMode (s : State) : DisplayMode := Config.displayMode s.rf s.hdac s.cfg.variant

/-- What the overlay puts on a screen pixel. `none` is the spec's NONE (the framebuffer pixel shows); `inverted` can come
only from a two-bit cursor. -/
inductive OverlayPixel where
  | none
  | inverted
  | colour (c : Rgb)
  deriving DecidableEq, Repr

/-- `S`, the side of the cursor bitmap in pixels (42_cursor_overlay.md R197). -/
def cursorSide (c : Config) : Nat :=
  match c.cursorSize with
  | .px32 => 32
  | .px64 => 64

/-- The bits of `cur.addr_reg` that select the bitmap's slot (42_cursor_overlay.md R197). -/
def cursorSlotMask (c : Config) : Byte :=
  match c.cursorSize with
  | .px32 => 0x3F
  | .px64 => 0x3C

/-- `CursorBase(s)` (42_cursor_overlay.md R197). -/
def cursorBase (s : State) : Nat :=
  (((s.cfg.vramSize : Int) - 0x4000 + ((s.cur.addrReg &&& cursorSlotMask s.cfg).toNat * 256 : Nat))
    % (s.cfg.vramSize : Int)).toNat

/-- Extended-palette entry 15, the cursor foreground (42_cursor_overlay.md R196). -/
def cursorForeground (s : State) : Rgb := s.cur.extPalette[15]

/-- Extended-palette entry 0, the cursor background (42_cursor_overlay.md R196). -/
def cursorBackground (s : State) : Rgb := s.cur.extPalette[0]

/-- Extended-palette entry 2, the overscan border colour (42_cursor_overlay.md R196, R199). -/
def overscanColour (s : State) : Rgb := s.cur.extPalette[2]

/-- The pixel in column `cx`, row `cy` of a one-bit cursor (42_cursor_overlay.md R198). -/
def cursorPixel1 (s : State) (cx cy : Nat) : OverlayPixel :=
  let byte := memRead s (cursorBase s + cy * (cursorSide s.cfg / 8) + cx / 8)
  .colour (if byte.getLsbD (7 - cx % 8) then cursorForeground s else cursorBackground s)

/-- The pixel in column `cx`, row `cy` of a two-bit cursor (42_cursor_overlay.md R198): the code is the parameter
function's. -/
def cursorPixel2 (s : State) (cx cy : Nat) : OverlayPixel :=
  match Config.cursorPixel2 s.vram.cells s.cfg.vramSize (cursorBase s) (cursorSide s.cfg) cx cy with
  | .transparent => .none
  | .inverted => .inverted
  | .background => .colour (cursorBackground s)
  | .foreground => .colour (cursorForeground s)

/-- `Overlay(s, px, py)` (42_cursor_overlay.md R198). -/
def overlay (s : State) (px py : Int) : OverlayPixel :=
  let cx := px - s.cur.x.toNat
  let cy := py - s.cur.y.toNat
  if s.cur.attr.getLsbD 0 = false then .none
  else if cx < 0 ∨ cx ≥ cursorSide s.cfg ∨ cy < 0 ∨ cy ≥ cursorSide s.cfg then .none
  else
    match s.cfg.cursorBpp with
    | .one => cursorPixel1 s cx.toNat cy.toNat
    | .two => cursorPixel2 s cx.toNat cy.toNat

end Machine

end Sys2Proof
end

