-- ==== Sys2Proof/Safety.lean ====
section
/-! DEFINITION. The terms the statements are made in: what every state between two transactions satisfies (10_state.md
R45 and the widths and masks of the rules), the tracking of a system transfer (R45(b), (c)), families of transactions, runs
of several instructions, and the shapes of the register and raster-operation statements. -/

namespace Sys2Proof.Machine

/-- Bits outside a mask are 0 (40_register_file_bank.md R128: "Bits masked off by `m` read as 0"). -/
abbrev Within {n : Nat} (v mask : BitVec n) : Prop := v &&& ~~~mask = 0

/-- A palette entry whose components carry no bit outside `DAC_COMP_MASK` (41_hidden_dac.md R176). -/
abbrev RgbWithin (e : Rgb) (mask : Byte) : Prop :=
  Within e.red mask ∧ Within e.green mask ∧ Within e.blue mask

/-- What holds of every state between two transactions. -/
structure Invariant (s : State) : Prop where
  /-- The parameters make sense. -/
  cfgWf : s.cfg.wf = true
  /-- VRAM is in canonical form. -/
  vramWf : s.vram.wf s.cfg.vramSize = true
  /-- 10_state.md R14, R15: as many bytes as the parameters count. -/
  registerCounts : s.rf.scratch.length = s.cfg.nScratch ∧ s.rf.vclkNum.length = s.cfg.nVclk ∧
    s.rf.vclkDenom.length = s.cfg.nVclk
  /-- 10_state.md R45(e). -/
  phaseInCycle : s.hdac.phase < s.cfg.hdacCycle
  /-- 10_state.md R45(a). -/
  fsmBetween : s.blt.fsm = .idle ∨ s.blt.fsm = .xferSys
  /-- 10_state.md R45(d). -/
  nothingStaged : s.blt.systemCount = 0
  /-- 10_state.md R44: `system_buffer[31:8]` stays 0. -/
  bufferOneByte : s.blt.systemBuffer.extractLsb' 8 24 = 0
  /-- 10_state.md R12. -/
  lockMasked : Within s.rf.lockReg s.cfg.unlockMask
  /-- 10_state.md R30. -/
  widthMasked : Within s.blt.width s.cfg.wMask
  /-- 10_state.md R31. -/
  heightMasked : Within s.blt.height s.cfg.hMask
  /-- 10_state.md R32. -/
  pitchesMasked : Within s.blt.destPitch s.cfg.pMask ∧ Within s.blt.sourcePitch s.cfg.pMask
  /-- 10_state.md R33. -/
  addressesMasked : Within s.blt.dest s.cfg.aMask ∧ Within s.blt.source s.cfg.aMask
  /-- 41_hidden_dac.md R176, R178. -/
  extPaletteMasked : ∀ i : Fin 16, RgbWithin s.cur.extPalette[i] s.cfg.dacCompMask

/-- A system transfer in progress is where its counts say (10_state.md R45(b), (c)). -/
def Tracking (s : State) : Prop :=
  s.blt.fsm = .xferSys →
    s.blt.pixelCount.toNat < s.blt.width.toNat ∧ s.blt.scanCount.toNat < s.blt.height.toNat ∧
    s.blt.destCurrent = destAddr s.blt s.blt.scanCount.toNat s.blt.pixelCount.toNat

/-- The instruction writes a BLT operand register (43_blt_registers.md R210..R229). -/
def writesOperand : Instr → Bool
  | .wBltWidthLo _ | .wBltWidthHi _ | .wBltHeightLo _ | .wBltHeightHi _ => true
  | .wBltDpitchLo _ | .wBltDpitchHi _ | .wBltSpitchLo _ | .wBltSpitchHi _ => true
  | .wBltDest0 _ | .wBltDest1 _ | .wBltDest2 _ | .wBltSrc0 _ | .wBltSrc1 _ | .wBltSrc2 _ => true
  | .wBltMode _ | .wBltRop _ | .wBltTcolLo _ | .wBltTcolHi _ | .wBltTmaskLo _ | .wBltTmaskHi _ => true
  | _ => false

/-- The instruction is an access of the DAC mask port (41_hidden_dac.md R171). -/
def isMaskAccess : Instr → Bool
  | .wDacMask _ | .rDacMask _ => true
  | _ => false

/-- The instruction is a transaction to the DAC space (30_encoding.md R97). -/
def isDacAccess : Instr → Bool
  | .wDacMask _ | .rDacMask _ | .wDacIndexR _ | .rDacIndexR _ | .wDacIndexW _ | .rDacIndexW _ => true
  | .wDacData _ | .rDacData _ | .wDacOverlay _ | .rDacOverlay _ => true
  | .wDacUnassigned _ _ | .rDacUnassigned _ _ => true
  | _ => false

/-- The register an instruction writes (30_encoding.md R92..R99), if it writes one. -/
def writtenRegister : Instr → Option Reg
  | .wSeqExtMode _ => some (.stored .seqExtMode)
  | .wSeqScratch1 _ => some (.stored .seqScratch1)
  | .wSeqScratch2 _ => some (.stored .seqScratch2)
  | .wSeqScratch3 _ => some (.stored .seqScratch3)
  | .wSeqVclkNum0 _ => some (.stored .seqVclkNum0)
  | .wSeqVclkNum1 _ => some (.stored .seqVclkNum1)
  | .wSeqVclkNum2 _ => some (.stored .seqVclkNum2)
  | .wSeqVclkNum3 _ => some (.stored .seqVclkNum3)
  | .wSeqVclkDenom0 _ => some (.stored .seqVclkDenom0)
  | .wSeqVclkDenom1 _ => some (.stored .seqVclkDenom1)
  | .wSeqVclkDenom2 _ => some (.stored .seqVclkDenom2)
  | .wSeqVclkDenom3 _ => some (.stored .seqVclkDenom3)
  | .wSeqCursorAttr _ => some (.stored .seqCursorAttr)
  | .wSeqCursorAddr _ => some (.stored .seqCursorAddr)
  | .wGcBg0 _ => some (.stored .gcBg0)
  | .wGcFg0 _ => some (.stored .gcFg0)
  | .wGcModeExt _ => some (.stored .gcModeExt)
  | .wGcBg1 _ => some (.stored .gcBg1)
  | .wGcFg1 _ => some (.stored .gcFg1)
  | .wCrtcExt19 _ => some (.stored .crtcExt19)
  | .wCrtcExt1A _ => some (.stored .crtcExt1A)
  | .wCrtcExt1B _ => some (.stored .crtcExt1B)
  | .wBankRd _ => some (.stored .bankRd)
  | .wBankWr _ => some (.stored .bankWr)
  | .wBltWidthLo _ => some (.stored .bltWidthLo)
  | .wBltWidthHi _ => some (.stored .bltWidthHi)
  | .wBltHeightLo _ => some (.stored .bltHeightLo)
  | .wBltHeightHi _ => some (.stored .bltHeightHi)
  | .wBltDpitchLo _ => some (.stored .bltDpitchLo)
  | .wBltDpitchHi _ => some (.stored .bltDpitchHi)
  | .wBltSpitchLo _ => some (.stored .bltSpitchLo)
  | .wBltSpitchHi _ => some (.stored .bltSpitchHi)
  | .wBltDest0 _ => some (.stored .bltDest0)
  | .wBltDest1 _ => some (.stored .bltDest1)
  | .wBltDest2 _ => some (.stored .bltDest2)
  | .wBltSrc0 _ => some (.stored .bltSrc0)
  | .wBltSrc1 _ => some (.stored .bltSrc1)
  | .wBltSrc2 _ => some (.stored .bltSrc2)
  | .wBltMode _ => some (.stored .bltMode)
  | .wBltRop _ => some (.stored .bltRop)
  | .wBltTcolLo _ => some (.stored .bltTcolLo)
  | .wBltTcolHi _ => some (.stored .bltTcolHi)
  | .wBltTmaskLo _ => some (.stored .bltTmaskLo)
  | .wBltTmaskHi _ => some (.stored .bltTmaskHi)
  | .wSeqLock _ => some .seqLock
  | .wSeqCursorX _ _ => some .seqCursorX
  | .wSeqCursorY _ _ => some .seqCursorY
  | .wCrtcId _ => some .crtcId
  | .wBltStatus _ => some .bltStatus
  | .wBltData _ => some .bltData
  | .wDacMask _ => some .dacMask
  | .wDacIndexR _ => some .dacIndexR
  | .wDacIndexW _ => some .dacIndexW
  | .wDacData _ => some .dacData
  | .wDacOverlay _ => some .dacOverlay
  | _ => none

/-- The instruction is a raster-operation row: a byte operation of the engine, not a transaction. -/
def isRopRow (i : Instr) : Bool :=
  match encode i with
  | .rop _ => true
  | .txn _ => false

/-- The state after the instructions have run one after another, if each answers a next state. -/
def execAll : List Instr → State → Option State
  | [], s => some s
  | i :: is, s =>
    match exec i s with
    | .next t => execAll is t
    | _ => none

/-- The lock gate lets a write to `r` through (40_register_file_bank.md R120). -/
abbrev GateOpen (s : State) (r : Reg) : Prop := r ∈ s.cfg.protectedRegs → s.rf.lockReg = s.cfg.unlockKey

/-- The lock gate discards a write to `r` (40_register_file_bank.md R120). -/
abbrev GateShut (s : State) (r : Reg) : Prop := r ∈ s.cfg.protectedRegs ∧ s.rf.lockReg ≠ s.cfg.unlockKey

/-- A write of `d` to `BLT.STATUS` starts a transfer (43_blt_registers.md R230). -/
abbrev Starts (s : State) (d : Byte) : Prop :=
  GateOpen s .bltStatus ∧ d.getLsbD 1 = true ∧ s.blt.fsm = .idle

/-- The engine's record as START leaves it before its first byte operation (44_blt_engine.md R251). -/
def startedBlt (b : Blt) (fsm : BltFsm) : Blt :=
  { b with
    fsm := fsm, sourceCurrent := b.source, destCurrent := b.dest, scanCount := 0, pixelCount := 0
    systemBuffer := 0, systemCount := 0 }

/-- A plain VRAM source (44_blt_engine.md R255): neither SYS_SRC, PATTERN nor EXPAND. -/
abbrev PlainVram (mode : Byte) : Prop :=
  mode.getLsbD 2 = false ∧ mode.getLsbD 6 = false ∧ mode.getLsbD 7 = false

/-- The VRAM index an address reaches (20_memory.md R62, R63). -/
abbrev vramIndex (s : State) (a : Addr) : Nat := a.toNat % s.cfg.vramSize

/-- The destination of byte operation number `k` of a transfer: row `k / w`, position `k mod w` (44_blt_engine.md R253,
R254). -/
def destAt (b : Blt) (k : Nat) : Addr := destAddr b (k / b.width.toNat) (k % b.width.toNat)

/-- The plain source of byte operation number `k` of a transfer (44_blt_engine.md R253, R254). -/
def srcAt (b : Blt) (k : Nat) : Addr := srcAddr b (k / b.width.toNat) (k % b.width.toNat)

/-- The number of byte operations of a transfer (44_blt_engine.md R253). -/
abbrev area (b : Blt) : Nat := b.width.toNat * b.height.toNat

/-- One pass of the loop of `RunVram` with the live raster operation (44_blt_engine.md R253). -/
def livePass (s : State) : State := byteOperation (liveRaster s) s

/-- Two names of one palette entry: the same palette, and the same index, modulo 16 in the extended palette
(41_hidden_dac.md R182). -/
def SameEntry (m : DacMode) (i : Byte) (m' : DacMode) (i' : Byte) : Prop :=
  m = m' ∧
  match m with
  | .normal => i = i'
  | .hidden => i &&& 0x0F = i' &&& 0x0F

/-- `bpp`, by `mode[4]` (44_blt_engine.md header; 30_encoding.md R100). -/
abbrev bytesPerPixel (mode : Byte) : Nat := if mode.getLsbD 4 then 2 else 1

/-- The bytes one row of colour expansion consumes: `ceil(ceil(w / bpp) / 8)` (44_blt_engine.md R266). -/
def bytesPerRow (b : Blt) : Nat :=
  ((b.width.toNat + bytesPerPixel b.mode - 1) / bytesPerPixel b.mode + 7) / 8

/-- The transparency test of 44_blt_engine.md R262: `mode[3] = 1 and (sb & tm) = (tc & tm)`, with the low bytes of the key
and of the mask. -/
abbrev SkippedByKey (b : Blt) (sb : Byte) : Prop :=
  b.mode.getLsbD 3 = true ∧
    sb &&& b.transColourMask.extractLsb' 0 8 = b.transColour.extractLsb' 0 8 &&& b.transColourMask.extractLsb' 0 8

/-- The colour byte of a source bit (44_blt_engine.md R256, R257, R259, R266): the foreground for 1, the background for 0; byte
0 is the low byte, byte 1 the high byte. -/
abbrev SelectedColour (rf : RegFile) (bit : Bool) (k : Nat) (sb : Byte) : Prop :=
  (bit = true → k = 0 → sb = rf.fg0) ∧ (bit = true → k = 1 → sb = rf.fg1) ∧
  (bit = false → k = 0 → sb = rf.bg0) ∧ (bit = false → k = 1 → sb = rf.bg1)

/-- `SourceOperand()` at the current position reads the VRAM byte at `a` and gives `sb`, case by case on EXPAND (`mode[7]`),
PATTERN (`mode[6]`) and EXP16 (`mode[4]`), in the spec's formulas (44_blt_engine.md R254..R260). -/
def ReadsOperand (s : State) (a : Addr) (sb : Byte) : Prop :=
  let x := s.blt.pixelCount.toNat
  let y := s.blt.scanCount.toNat
  let source : Int := s.blt.source.toNat
  let row : Int := y * s.blt.sourcePitch.toNat
  let dir : Int := if s.blt.mode.getLsbD 0 then -1 else 1
  let byte := memRead s a.toNat
  match s.blt.mode.getLsbD 7, s.blt.mode.getLsbD 6, s.blt.mode.getLsbD 4 with
  | false, false, _ => a = BitVec.ofInt 24 (source + dir * (row + x)) ∧ sb = byte
  | true, false, false =>
    a = BitVec.ofInt 24 (source + dir * (row + (x / 8 : Nat))) ∧ SelectedColour s.rf (byte.getLsbD (7 - x % 8)) 0 sb
  | true, false, true =>
    a = BitVec.ofInt 24 (source + dir * (row + (x / 2 / 8 : Nat))) ∧
      SelectedColour s.rf (byte.getLsbD (7 - x / 2 % 8)) (x % 2) sb
  | false, true, false => a = BitVec.ofInt 24 (source + (y % 8 : Nat) * 8 + (x % 8 : Nat)) ∧ sb = byte
  | false, true, true => a = BitVec.ofInt 24 (source + (y % 8 : Nat) * 16 + (x % 16 : Nat)) ∧ sb = byte
  | true, true, false =>
    a = BitVec.ofInt 24 (source + (y % 8 : Nat)) ∧ SelectedColour s.rf (byte.getLsbD (7 - x % 8)) 0 sb
  | true, true, true =>
    a = BitVec.ofInt 24 (source + (y % 8 : Nat)) ∧ SelectedColour s.rf (byte.getLsbD (7 - x / 2 % 8)) (x % 2) sb

/-- Nothing but the engine's record and VRAM differs. -/
abbrev OnlyEngineAndVram (s t : State) : Prop := t = { s with blt := t.blt, vram := t.vram }

/-- The words of a write and of a read of index (or port) `index` of a space decode to the given instructions, whatever the
data bits are (30_encoding.md R90..R99; data bits of a read other than 0: notes/assumptions/3.md). -/
def DecodesAt (space : BitVec 4) (index : Byte) (write read : Byte → Instr) : Prop :=
  ∀ d : Byte, decode (.txn (txnWord space true (indexAddr index) d)) = write d ∧
    decode (.txn (txnWord space false (indexAddr index) d)) = read d

/-- What a stored-byte register does (40_register_file_bank.md R128 behind R120): where it is in its space, its default
protection, its write when the gate is open and when it is shut, its read. `put` and `get` name the field (or slice), `mask`
the write mask. -/
def StoredRegisterRule (space : BitVec 4) (index : Byte) (r : StoredReg) (prot : Bool) (write read : Byte → Instr)
    (get mask : State → Byte) (put : Byte → State → State) : Prop :=
  DecodesAt space index write read ∧
  Config.default.protectedRegs.contains (.stored r) = prot ∧
  ∀ (d p : Byte) (s : State),
    (GateOpen s (.stored r) → exec (write d) s = .next (put (d &&& mask s) s)) ∧
    (GateShut s (.stored r) → exec (write d) s = .next s) ∧
    exec (read p) s = .next { s with answer := some (get s) }

/-- What a scratch register or clock byte does: slot `slot` of `count` does what a stored-byte register does where the
parameters give the chip that slot; where they do not, its index is unassigned (30_encoding.md R105; DEDUCED,
notes/assumptions/10.md). -/
def CountedRegisterRule (space : BitVec 4) (index : Byte) (r : StoredReg) (write read : Byte → Instr)
    (count : Config → Nat) (slot : Nat) (get : State → List Byte) (put : List Byte → State → State) : Prop :=
  DecodesAt space index write read ∧
  Config.default.protectedRegs.contains (.stored r) = true ∧ slot < count Config.default ∧
  ∀ (d p : Byte) (s : State),
    (slot < count s.cfg → GateOpen s (.stored r) → exec (write d) s = .next (put ((get s).set slot d) s)) ∧
    (slot < count s.cfg → GateShut s (.stored r) → exec (write d) s = .next s) ∧
    (slot < count s.cfg → exec (read p) s = .next { s with answer := some ((get s).getD slot 0) }) ∧
    (count s.cfg ≤ slot →
      exec (write d) s = .next s ∧ exec (read p) s = .next { s with answer := some s.cfg.unassignedRead })

/-- What a raster-operation row does (44_blt_engine.md R253..R262; 45_blt_rops.md R306): the code selects the row, and one
byte operation of a running VRAM transfer under it reads the source operand the mode byte asks for, skips it if it matches
the key, and else combines it with the current destination byte, with `f` where the variant implements the code and with the
source operand alone where it does not. -/
def RasterRowRule (code : Byte) (i : Instr) (f : Byte → Byte → Byte) : Prop :=
  decode (.rop code) = i ∧
  ∀ (s : State) (from_ : Addr) (sb : Byte), s.blt.fsm = .xferVram → ReadsOperand s from_ sb →
    ∃ t, exec i s = .next t ∧ OnlyEngineAndVram s t ∧
      t.blt = advanceBlt { s.blt with sourceCurrent := from_ } ∧
      (SkippedByKey s.blt sb → t.vram = s.vram) ∧
      (¬ SkippedByKey s.blt sb →
        ∀ a, memRead t a =
          if a % s.cfg.vramSize = vramIndex s s.blt.destCurrent then
            (if code ∈ s.cfg.rops then f sb (memRead s s.blt.destCurrent.toNat) else sb)
          else memRead s a)

end Sys2Proof.Machine
end

