-- ==== Sys2Proof/Certificates/Slice0/Obligations.lean ====
section
/-! DEFINITION. The statements for the provers. -/

open Sys2Proof Sys2Proof.Machine

/-- The stored-byte registers of the Sequencer space, `SEQ.EXT_MODE`, the scratch and clock registers and the cursor's
attribute and address registers (40_register_file_bank.md R124..R127, R131, R132; 42_cursor_overlay.md R194, R195), follow
the template R128 behind the gate R120: a write changes only its field, a shut gate discards it, a read changes nothing. The
scratch and clock registers are as many as `N_SCRATCH` and `N_VCLK` say (10_state.md R14, R15); the index of one beyond is
unassigned (the model's reading, notes/assumptions/10.md). -/
def Obligations.SequencerStoredRegisters : Prop :=
  StoredRegisterRule 2 0x07 .seqExtMode true .wSeqExtMode .rSeqExtMode
    (fun s => s.rf.seqExtMode) (fun _ => 0xFF)
    (fun v s => { s with rf := { s.rf with seqExtMode := v } }) ∧
  CountedRegisterRule 2 0x09 .seqScratch1 .wSeqScratch1 .rSeqScratch1 (fun c => c.nScratch) 0
    (fun s => s.rf.scratch) (fun v s => { s with rf := { s.rf with scratch := v } }) ∧
  CountedRegisterRule 2 0x0A .seqScratch2 .wSeqScratch2 .rSeqScratch2 (fun c => c.nScratch) 1
    (fun s => s.rf.scratch) (fun v s => { s with rf := { s.rf with scratch := v } }) ∧
  CountedRegisterRule 2 0x14 .seqScratch3 .wSeqScratch3 .rSeqScratch3 (fun c => c.nScratch) 2
    (fun s => s.rf.scratch) (fun v s => { s with rf := { s.rf with scratch := v } }) ∧
  CountedRegisterRule 2 0x0B .seqVclkNum0 .wSeqVclkNum0 .rSeqVclkNum0 (fun c => c.nVclk) 0
    (fun s => s.rf.vclkNum) (fun v s => { s with rf := { s.rf with vclkNum := v } }) ∧
  CountedRegisterRule 2 0x0C .seqVclkNum1 .wSeqVclkNum1 .rSeqVclkNum1 (fun c => c.nVclk) 1
    (fun s => s.rf.vclkNum) (fun v s => { s with rf := { s.rf with vclkNum := v } }) ∧
  CountedRegisterRule 2 0x0D .seqVclkNum2 .wSeqVclkNum2 .rSeqVclkNum2 (fun c => c.nVclk) 2
    (fun s => s.rf.vclkNum) (fun v s => { s with rf := { s.rf with vclkNum := v } }) ∧
  CountedRegisterRule 2 0x0E .seqVclkNum3 .wSeqVclkNum3 .rSeqVclkNum3 (fun c => c.nVclk) 3
    (fun s => s.rf.vclkNum) (fun v s => { s with rf := { s.rf with vclkNum := v } }) ∧
  CountedRegisterRule 2 0x1B .seqVclkDenom0 .wSeqVclkDenom0 .rSeqVclkDenom0 (fun c => c.nVclk) 0
    (fun s => s.rf.vclkDenom) (fun v s => { s with rf := { s.rf with vclkDenom := v } }) ∧
  CountedRegisterRule 2 0x1C .seqVclkDenom1 .wSeqVclkDenom1 .rSeqVclkDenom1 (fun c => c.nVclk) 1
    (fun s => s.rf.vclkDenom) (fun v s => { s with rf := { s.rf with vclkDenom := v } }) ∧
  CountedRegisterRule 2 0x1D .seqVclkDenom2 .wSeqVclkDenom2 .rSeqVclkDenom2 (fun c => c.nVclk) 2
    (fun s => s.rf.vclkDenom) (fun v s => { s with rf := { s.rf with vclkDenom := v } }) ∧
  CountedRegisterRule 2 0x1E .seqVclkDenom3 .wSeqVclkDenom3 .rSeqVclkDenom3 (fun c => c.nVclk) 3
    (fun s => s.rf.vclkDenom) (fun v s => { s with rf := { s.rf with vclkDenom := v } }) ∧
  StoredRegisterRule 2 0x12 .seqCursorAttr true .wSeqCursorAttr .rSeqCursorAttr
    (fun s => s.cur.attr) (fun _ => 0xFF)
    (fun v s => { s with cur := { s.cur with attr := v } }) ∧
  StoredRegisterRule 2 0x13 .seqCursorAddr true .wSeqCursorAddr .rSeqCursorAddr
    (fun s => s.cur.addrReg) (fun _ => 0xFF)
    (fun v s => { s with cur := { s.cur with addrReg := v } })

/-- The Graphics-Controller registers (40_register_file_bank.md R133..R137), of which `GC.BG0` and `GC.FG0` are
unprotected by default. -/
def Obligations.GraphicsControllerRegisters : Prop :=
  StoredRegisterRule 3 0x00 .gcBg0 false .wGcBg0 .rGcBg0
    (fun s => s.rf.bg0) (fun _ => 0xFF)
    (fun v s => { s with rf := { s.rf with bg0 := v } }) ∧
  StoredRegisterRule 3 0x01 .gcFg0 false .wGcFg0 .rGcFg0
    (fun s => s.rf.fg0) (fun _ => 0xFF)
    (fun v s => { s with rf := { s.rf with fg0 := v } }) ∧
  StoredRegisterRule 3 0x0B .gcModeExt true .wGcModeExt .rGcModeExt
    (fun s => s.rf.gcModeExt) (fun _ => 0xFF)
    (fun v s => { s with rf := { s.rf with gcModeExt := v } }) ∧
  StoredRegisterRule 3 0x10 .gcBg1 true .wGcBg1 .rGcBg1
    (fun s => s.rf.bg1) (fun _ => 0xFF)
    (fun v s => { s with rf := { s.rf with bg1 := v } }) ∧
  StoredRegisterRule 3 0x11 .gcFg1 true .wGcFg1 .rGcFg1
    (fun s => s.rf.fg1) (fun _ => 0xFF)
    (fun v s => { s with rf := { s.rf with fg1 := v } })

/-- The CRTC extension registers (40_register_file_bank.md R142..R144). -/
def Obligations.CrtcExtensionRegisters : Prop :=
  StoredRegisterRule 4 0x19 .crtcExt19 true .wCrtcExt19 .rCrtcExt19
    (fun s => s.rf.crtcExt19) (fun _ => 0xFF)
    (fun v s => { s with rf := { s.rf with crtcExt19 := v } }) ∧
  StoredRegisterRule 4 0x1A .crtcExt1A true .wCrtcExt1A .rCrtcExt1A
    (fun s => s.rf.crtcExt1A) (fun _ => 0xFF)
    (fun v s => { s with rf := { s.rf with crtcExt1A := v } }) ∧
  StoredRegisterRule 4 0x1B .crtcExt1B true .wCrtcExt1B .rCrtcExt1B
    (fun s => s.rf.crtcExt1B) (fun _ => 0xFF)
    (fun v s => { s with rf := { s.rf with crtcExt1B := v } })

/-- The bank registers (40_register_file_bank.md R150, R151). -/
def Obligations.BankRegisters : Prop :=
  StoredRegisterRule 7 0x00 .bankRd true .wBankRd .rBankRd
    (fun s => s.rf.bankRd) (fun _ => 0xFF)
    (fun v s => { s with rf := { s.rf with bankRd := v } }) ∧
  StoredRegisterRule 7 0x01 .bankWr true .wBankWr .rBankWr
    (fun s => s.rf.bankWr) (fun _ => 0xFF)
    (fun v s => { s with rf := { s.rf with bankWr := v } })

/-- The extent and pitch registers of the BLT block, each byte masked by its byte of `W_MASK`, `H_MASK` or `P_MASK`
(43_blt_registers.md R210..R217). -/
def Obligations.BltExtentAndPitchRegisters : Prop :=
  StoredRegisterRule 6 0x20 .bltWidthLo true .wBltWidthLo .rBltWidthLo
    (fun s => s.blt.width.extractLsb' 0 8) (fun s => s.cfg.wMask.extractLsb' 0 8)
    (fun v s => { s with blt := { s.blt with width := s.blt.width.extractLsb' 8 8 ++ v } }) ∧
  StoredRegisterRule 6 0x21 .bltWidthHi true .wBltWidthHi .rBltWidthHi
    (fun s => s.blt.width.extractLsb' 8 8) (fun s => s.cfg.wMask.extractLsb' 8 8)
    (fun v s => { s with blt := { s.blt with width := v ++ s.blt.width.extractLsb' 0 8 } }) ∧
  StoredRegisterRule 6 0x22 .bltHeightLo true .wBltHeightLo .rBltHeightLo
    (fun s => s.blt.height.extractLsb' 0 8) (fun s => s.cfg.hMask.extractLsb' 0 8)
    (fun v s => { s with blt := { s.blt with height := s.blt.height.extractLsb' 8 8 ++ v } }) ∧
  StoredRegisterRule 6 0x23 .bltHeightHi true .wBltHeightHi .rBltHeightHi
    (fun s => s.blt.height.extractLsb' 8 8) (fun s => s.cfg.hMask.extractLsb' 8 8)
    (fun v s => { s with blt := { s.blt with height := v ++ s.blt.height.extractLsb' 0 8 } }) ∧
  StoredRegisterRule 6 0x24 .bltDpitchLo true .wBltDpitchLo .rBltDpitchLo
    (fun s => s.blt.destPitch.extractLsb' 0 8) (fun s => s.cfg.pMask.extractLsb' 0 8)
    (fun v s => { s with blt := { s.blt with destPitch := s.blt.destPitch.extractLsb' 8 8 ++ v } }) ∧
  StoredRegisterRule 6 0x25 .bltDpitchHi true .wBltDpitchHi .rBltDpitchHi
    (fun s => s.blt.destPitch.extractLsb' 8 8) (fun s => s.cfg.pMask.extractLsb' 8 8)
    (fun v s => { s with blt := { s.blt with destPitch := v ++ s.blt.destPitch.extractLsb' 0 8 } }) ∧
  StoredRegisterRule 6 0x26 .bltSpitchLo true .wBltSpitchLo .rBltSpitchLo
    (fun s => s.blt.sourcePitch.extractLsb' 0 8) (fun s => s.cfg.pMask.extractLsb' 0 8)
    (fun v s => { s with blt := { s.blt with sourcePitch := s.blt.sourcePitch.extractLsb' 8 8 ++ v } }) ∧
  StoredRegisterRule 6 0x27 .bltSpitchHi true .wBltSpitchHi .rBltSpitchHi
    (fun s => s.blt.sourcePitch.extractLsb' 8 8) (fun s => s.cfg.pMask.extractLsb' 8 8)
    (fun v s => { s with blt := { s.blt with sourcePitch := v ++ s.blt.sourcePitch.extractLsb' 0 8 } })

/-- The address registers of the BLT block, each byte masked by its byte of `A_MASK` (43_blt_registers.md R218..R223); a
write does not change `blt.dest_current`. -/
def Obligations.BltAddressRegisters : Prop :=
  StoredRegisterRule 6 0x28 .bltDest0 true .wBltDest0 .rBltDest0
    (fun s => s.blt.dest.extractLsb' 0 8) (fun s => s.cfg.aMask.extractLsb' 0 8)
    (fun v s => { s with blt := { s.blt with dest := s.blt.dest.extractLsb' 8 16 ++ v } }) ∧
  StoredRegisterRule 6 0x29 .bltDest1 true .wBltDest1 .rBltDest1
    (fun s => s.blt.dest.extractLsb' 8 8) (fun s => s.cfg.aMask.extractLsb' 8 8)
    (fun v s => { s with blt := { s.blt with dest := s.blt.dest.extractLsb' 16 8 ++ v ++ s.blt.dest.extractLsb' 0 8 } }) ∧
  StoredRegisterRule 6 0x2A .bltDest2 true .wBltDest2 .rBltDest2
    (fun s => s.blt.dest.extractLsb' 16 8) (fun s => s.cfg.aMask.extractLsb' 16 8)
    (fun v s => { s with blt := { s.blt with dest := v ++ s.blt.dest.extractLsb' 0 16 } }) ∧
  StoredRegisterRule 6 0x2C .bltSrc0 true .wBltSrc0 .rBltSrc0
    (fun s => s.blt.source.extractLsb' 0 8) (fun s => s.cfg.aMask.extractLsb' 0 8)
    (fun v s => { s with blt := { s.blt with source := s.blt.source.extractLsb' 8 16 ++ v } }) ∧
  StoredRegisterRule 6 0x2D .bltSrc1 true .wBltSrc1 .rBltSrc1
    (fun s => s.blt.source.extractLsb' 8 8) (fun s => s.cfg.aMask.extractLsb' 8 8)
    (fun v s => { s with blt := { s.blt with source := s.blt.source.extractLsb' 16 8 ++ v ++ s.blt.source.extractLsb' 0 8 } }) ∧
  StoredRegisterRule 6 0x2E .bltSrc2 true .wBltSrc2 .rBltSrc2
    (fun s => s.blt.source.extractLsb' 16 8) (fun s => s.cfg.aMask.extractLsb' 16 8)
    (fun v s => { s with blt := { s.blt with source := v ++ s.blt.source.extractLsb' 0 16 } })

/-- `BLT.MODE`, `BLT.ROP` and the transparency key and mask registers store whole bytes (43_blt_registers.md R224..R229);
a write starts no transfer. -/
def Obligations.BltModeRopAndKeyRegisters : Prop :=
  StoredRegisterRule 6 0x30 .bltMode true .wBltMode .rBltMode
    (fun s => s.blt.mode) (fun _ => 0xFF)
    (fun v s => { s with blt := { s.blt with mode := v } }) ∧
  StoredRegisterRule 6 0x32 .bltRop true .wBltRop .rBltRop
    (fun s => s.blt.rop) (fun _ => 0xFF)
    (fun v s => { s with blt := { s.blt with rop := v } }) ∧
  StoredRegisterRule 6 0x34 .bltTcolLo true .wBltTcolLo .rBltTcolLo
    (fun s => s.blt.transColour.extractLsb' 0 8) (fun _ => 0xFF)
    (fun v s => { s with blt := { s.blt with transColour := s.blt.transColour.extractLsb' 8 8 ++ v } }) ∧
  StoredRegisterRule 6 0x35 .bltTcolHi true .wBltTcolHi .rBltTcolHi
    (fun s => s.blt.transColour.extractLsb' 8 8) (fun _ => 0xFF)
    (fun v s => { s with blt := { s.blt with transColour := v ++ s.blt.transColour.extractLsb' 0 8 } }) ∧
  StoredRegisterRule 6 0x38 .bltTmaskLo true .wBltTmaskLo .rBltTmaskLo
    (fun s => s.blt.transColourMask.extractLsb' 0 8) (fun _ => 0xFF)
    (fun v s => { s with blt := { s.blt with transColourMask := s.blt.transColourMask.extractLsb' 8 8 ++ v } }) ∧
  StoredRegisterRule 6 0x39 .bltTmaskHi true .wBltTmaskHi .rBltTmaskHi
    (fun s => s.blt.transColourMask.extractLsb' 8 8) (fun _ => 0xFF)
    (fun v s => { s with blt := { s.blt with transColourMask := v ++ s.blt.transColourMask.extractLsb' 0 8 } })

/-- `W SEQ.LOCK`, unprotected by default, stores `data & UNLOCK_MASK` in both lock states and changes nothing else; `R
SEQ.LOCK` tells the lock state (40_register_file_bank.md R122, R123); with the default parameters the chip is unlocked
after the write exactly when bits 4, 2, 1, 0 of the byte are 1, 0, 1, 0 (30_encoding.md R103). -/
def Obligations.LockRegister : Prop :=
  DecodesAt 2 0x06 .wSeqLock .rSeqLock ∧
  Config.default.protectedRegs.contains .seqLock = false ∧
  (∀ (d p : Byte) (s : State),
    (GateOpen s .seqLock →
      exec (.wSeqLock d) s = .next { s with rf := { s.rf with lockReg := d &&& s.cfg.unlockMask } }) ∧
    exec (.rSeqLock p) s = .next { s with
      answer := some (if s.rf.lockReg = s.cfg.unlockKey then s.cfg.lockReadUnlocked else s.cfg.lockReadLocked) }) ∧
  Config.default.lockReadUnlocked = 0x12 ∧ Config.default.lockReadLocked = 0x0F ∧
  ∀ d : Byte, d &&& Config.default.unlockMask = Config.default.unlockKey ↔
    d.getLsbD 4 = true ∧ d.getLsbD 2 = false ∧ d.getLsbD 1 = true ∧ d.getLsbD 0 = false

/-- The cursor coordinate registers (42_cursor_overlay.md R190..R193): the eight indices of each decode to it, a write past
the gate stores `data` above `index[7:5]`, a shut gate discards it, a read returns bits [10:3]. -/
def Obligations.CursorCoordinateRegisters : Prop :=
  Config.default.protectedRegs.contains .seqCursorX = true ∧
  Config.default.protectedRegs.contains .seqCursorY = true ∧
  ∀ (low : BitVec 3) (d p : Byte) (s : State),
    decode (.txn (txnWord 2 true (indexAddr (low ++ 0x10#5)) d)) = .wSeqCursorX low d ∧
    decode (.txn (txnWord 2 false (indexAddr (low ++ 0x10#5)) p)) = .rSeqCursorX low p ∧
    decode (.txn (txnWord 2 true (indexAddr (low ++ 0x11#5)) d)) = .wSeqCursorY low d ∧
    decode (.txn (txnWord 2 false (indexAddr (low ++ 0x11#5)) p)) = .rSeqCursorY low p ∧
    (GateOpen s .seqCursorX → exec (.wSeqCursorX low d) s = .next { s with cur := { s.cur with x := d ++ low } }) ∧
    (GateShut s .seqCursorX → exec (.wSeqCursorX low d) s = .next s) ∧
    exec (.rSeqCursorX low p) s = .next { s with answer := some (s.cur.x.extractLsb' 3 8) } ∧
    (GateOpen s .seqCursorY → exec (.wSeqCursorY low d) s = .next { s with cur := { s.cur with y := d ++ low } }) ∧
    (GateShut s .seqCursorY → exec (.wSeqCursorY low d) s = .next s) ∧
    exec (.rSeqCursorY low p) s = .next { s with answer := some (s.cur.y.extractLsb' 3 8) }

/-- `CRTC.ID` reads as the variant's OPEN `CAP.chip_id` and discards every write (40_register_file_bank.md R145). -/
def Obligations.ChipIdRegister : Prop :=
  DecodesAt 4 0x27 .wCrtcId .rCrtcId ∧
  ∀ (d p : Byte) (s : State),
    exec (.rCrtcId p) s = .next { s with answer := some (Config.chipId s.cfg.variant) } ∧
    exec (.wCrtcId d) s = .next s

/-- The unassigned indices of `SEQ`, `GC`, `CRTC`, `BLT` and `BANK` decode to the space's unassigned transactions, whose
write is discarded and whose read returns `UNASSIGNED_READ` (40_register_file_bank.md R140, R141, R146, R154;
43_blt_registers.md R234). -/
def Obligations.UnassignedIndices : Prop :=
  (∀ i d : Byte, i.extractLsb' 0 5 ≠ 0x10 → i.extractLsb' 0 5 ≠ 0x11 →
    i ∉ ([0x06, 0x07, 0x09, 0x0A, 0x0B, 0x0C, 0x0D, 0x0E, 0x12, 0x13, 0x14, 0x1B, 0x1C, 0x1D, 0x1E] : List Byte) →
    decode (.txn (txnWord 2 true (indexAddr i) d)) = .wSeqUnassigned (indexAddr i) d ∧
    decode (.txn (txnWord 2 false (indexAddr i) d)) = .rSeqUnassigned (indexAddr i) d) ∧
  (∀ i d : Byte, i ∉ ([0x00, 0x01, 0x0B, 0x10, 0x11] : List Byte) →
    decode (.txn (txnWord 3 true (indexAddr i) d)) = .wGcUnassigned (indexAddr i) d ∧
    decode (.txn (txnWord 3 false (indexAddr i) d)) = .rGcUnassigned (indexAddr i) d) ∧
  (∀ i d : Byte, i ∉ ([0x19, 0x1A, 0x1B, 0x27] : List Byte) →
    decode (.txn (txnWord 4 true (indexAddr i) d)) = .wCrtcUnassigned (indexAddr i) d ∧
    decode (.txn (txnWord 4 false (indexAddr i) d)) = .rCrtcUnassigned (indexAddr i) d) ∧
  (∀ i d : Byte, (i.toNat < 0x20 ∨ i = 0x2B ∨ i = 0x2F ∨ i = 0x33 ∨ i = 0x36 ∨ i = 0x37 ∨
      (0x3A ≤ i.toNat ∧ i.toNat ≤ 0x3E) ∨ 0x40 ≤ i.toNat) →
    decode (.txn (txnWord 6 true (indexAddr i) d)) = .wBltUnassigned (indexAddr i) d ∧
    decode (.txn (txnWord 6 false (indexAddr i) d)) = .rBltUnassigned (indexAddr i) d) ∧
  (∀ i d : Byte, 2 ≤ i.toNat →
    decode (.txn (txnWord 7 true (indexAddr i) d)) = .wBankUnassigned (indexAddr i) d ∧
    decode (.txn (txnWord 7 false (indexAddr i) d)) = .rBankUnassigned (indexAddr i) d) ∧
  ∀ (a : Addr) (d : Byte) (s : State),
    exec (.wSeqUnassigned a d) s = .next s ∧ exec (.wGcUnassigned a d) s = .next s ∧
    exec (.wCrtcUnassigned a d) s = .next s ∧ exec (.wBltUnassigned a d) s = .next s ∧
    exec (.wBankUnassigned a d) s = .next s ∧
    exec (.rSeqUnassigned a d) s = .next { s with answer := some s.cfg.unassignedRead } ∧
    exec (.rGcUnassigned a d) s = .next { s with answer := some s.cfg.unassignedRead } ∧
    exec (.rCrtcUnassigned a d) s = .next { s with answer := some s.cfg.unassignedRead } ∧
    exec (.rBltUnassigned a d) s = .next { s with answer := some s.cfg.unassignedRead } ∧
    exec (.rBankUnassigned a d) s = .next { s with answer := some s.cfg.unassignedRead }

/-- Ports 5 and up of the DAC space (41_hidden_dac.md R180): the write is discarded, the read returns `UNASSIGNED_READ`,
and either makes `hdac.phase` 0. -/
def Obligations.UnassignedDacPorts : Prop :=
  (∀ i d : Byte, 5 ≤ i.toNat →
    decode (.txn (txnWord 5 true (indexAddr i) d)) = .wDacUnassigned (indexAddr i) d ∧
    decode (.txn (txnWord 5 false (indexAddr i) d)) = .rDacUnassigned (indexAddr i) d) ∧
  ∀ (a : Addr) (d : Byte) (s : State),
    exec (.wDacUnassigned a d) s = .next { s with hdac := { s.hdac with phase := 0 } } ∧
    exec (.rDacUnassigned a d) s =
      .next { s with hdac := { s.hdac with phase := 0 }, answer := some s.cfg.unassignedRead }

/-- A word with `T[35:33] != 0` or a space of 8 and up is no transaction: the state is unchanged (30_encoding.md R105, R106
step 1). -/
def Obligations.InvalidWordsChangeNothing : Prop :=
  (∀ (w : Txn) (s : State), (w.extractLsb' 33 3 ≠ 0 ∨ 8 ≤ (w.extractLsb' 36 4).toNat) →
    exec (decode (.txn w)) s = .next s) ∧
  ∀ (w : Txn) (s : State),
    exec (.invalidSpace w) s = .next s ∧ exec (.invalidBit33 w) s = .next s ∧
    exec (.invalidBit34 w) s = .next s ∧ exec (.invalidBit35 w) s = .next s

/-- `W DAC.MASK` and `R DAC.MASK` advance the phase, toggle the mode at the wrap, and pass through to the pixel mask
(41_hidden_dac.md R171, R172); the port is unprotected by default. -/
def Obligations.MaskPort : Prop :=
  DecodesAt 5 0 .wDacMask .rDacMask ∧ Config.default.protectedRegs.contains .dacMask = false ∧
  ∀ (d p : Byte) (s : State) (h : HiddenDac),
    h = (if s.hdac.phase + 1 = s.cfg.hdacCycle then
        { mode := if s.hdac.mode = .normal then .hidden else .normal, phase := 0 }
      else { mode := s.hdac.mode, phase := s.hdac.phase + 1 }) →
    (GateOpen s .dacMask → exec (.wDacMask d) s = .next { s with hdac := h, dac := { s.dac with pelMask := d } }) ∧
    exec (.rDacMask p) s = .next { s with hdac := h, answer := some s.dac.pelMask }

/-- An unbroken run of mask-port accesses, reads and writes alike, counts modulo `HDAC_CYCLE` and toggles the mode at every
wrap (41_hidden_dac.md R171; 10_state.md R21). -/
def Obligations.MaskAccessesCountTheCycle : Prop :=
  ∀ (is : List Instr) (s : State), (∀ i ∈ is, isMaskAccess i = true) → GateOpen s .dacMask →
    s.hdac.phase < s.cfg.hdacCycle →
    ∃ t, execAll is s = some t ∧
      t.hdac.phase = (s.hdac.phase + is.length) % s.cfg.hdacCycle ∧
      t.hdac.mode =
        if (s.hdac.phase + is.length) / s.cfg.hdacCycle % 2 = 0 then s.hdac.mode
        else if s.hdac.mode = .normal then .hidden else .normal

/-- Every transaction to the DAC space other than to the mask port makes the phase 0 and leaves the mode (41_hidden_dac.md
R173); by default no DAC port is protected. -/
def Obligations.OtherDacAccessesBreakTheSequence : Prop :=
  (∀ i r, isDacAccess i = true → writtenRegister i = some r → Config.default.protectedRegs.contains r = false) ∧
  ∀ (i : Instr) (s : State), isDacAccess i = true → isMaskAccess i = false →
    (∀ r, writtenRegister i = some r → GateOpen s r) →
    ∃ t, exec i s = .next t ∧ t.hdac = { mode := s.hdac.mode, phase := 0 }

/-- No transaction to a space other than `DAC` reads or writes `hdac` (41_hidden_dac.md R174): its outcome is the same
whatever `hdac` is, and leaves `hdac` as it was. -/
def Obligations.OtherSpacesIgnoreTheHiddenDac : Prop :=
  ∀ (i : Instr) (s : State) (h : HiddenDac), isDacAccess i = false →
    ∃ t, exec i s = .next t ∧ t.hdac = s.hdac ∧ exec i { s with hdac := h } = .next { t with hdac := h }

/-- The index ports (41_hidden_dac.md R175, R181): a write loads the index and restarts the components at red; a read of
`DAC.INDEX_W` returns the write index; a read of `DAC.INDEX_R` returns the free byte of its draw (the model's free value,
notes/assumptions/12.md, true for every byte it may be); all make the phase 0. -/
def Obligations.DacIndexPorts : Prop :=
  DecodesAt 5 1 .wDacIndexR .rDacIndexR ∧ DecodesAt 5 2 .wDacIndexW .rDacIndexW ∧
  ∀ (d p : Byte) (s : State),
    (GateOpen s .dacIndexW → exec (.wDacIndexW d) s = .next { s with
      dac := { s.dac with writeIndex := d, wcomp := .red }, hdac := { s.hdac with phase := 0 } }) ∧
    exec (.rDacIndexW p) s = .next { s with
      hdac := { s.hdac with phase := 0 }, answer := some s.dac.writeIndex } ∧
    (GateOpen s .dacIndexR → exec (.wDacIndexR d) s = .next { s with
      dac := { s.dac with readIndex := d, rcomp := .red }, hdac := { s.hdac with phase := 0 } }) ∧
    exec (.rDacIndexR p) s = .next { s with
      hdac := { s.hdac with phase := 0 }, dacDraws := s.dacDraws + 1,
      answer := some (Config.dacStateByte s.dacDraws) }

/-- `W DAC.DATA` (41_hidden_dac.md R176, R182): the current component of the entry the write index names, in the palette the
mode selects, becomes `data & DAC_COMP_MASK`; no other component of either palette changes; the counter and, after blue, the
index advance; the phase becomes 0; nothing else changes. -/
def Obligations.DacDataWrite : Prop :=
  DecodesAt 5 3 .wDacData .rDacData ∧
  ∀ (d : Byte) (s : State), GateOpen s .dacData → ∃ t, exec (.wDacData d) s = .next t ∧
    component s.dac.wcomp (paletteEntry s.hdac.mode s.dac.writeIndex t) = d &&& s.cfg.dacCompMask ∧
    (∀ (m : DacMode) (i : Byte) (c : Component),
      ¬ (SameEntry m i s.hdac.mode s.dac.writeIndex ∧ c = s.dac.wcomp) →
      component c (paletteEntry m i t) = component c (paletteEntry m i s)) ∧
    t.dac.wcomp = (match s.dac.wcomp with | .red => .green | .green => .blue | .blue => .red) ∧
    t.dac.writeIndex = (if s.dac.wcomp = .blue then s.dac.writeIndex + 1 else s.dac.writeIndex) ∧
    t = { s with
      hdac := { s.hdac with phase := 0 }
      dac := { s.dac with palette := t.dac.palette, wcomp := t.dac.wcomp, writeIndex := t.dac.writeIndex }
      cur := { s.cur with extPalette := t.cur.extPalette } }

/-- `R DAC.DATA` (41_hidden_dac.md R177, R182): the current component of the entry the read index names, in the palette the
mode selects; the counter and, after blue, the index advance; the phase becomes 0. -/
def Obligations.DacDataRead : Prop :=
  ∀ (p : Byte) (s : State) (e : Rgb),
    e = (match s.hdac.mode with
      | .normal => s.dac.palette[s.dac.readIndex.toNat]
      | .hidden => s.cur.extPalette[s.dac.readIndex.toNat % 16]) →
    exec (.rDacData p) s = .next { s with
      hdac := { s.hdac with phase := 0 }
      dac := { s.dac with
        rcomp := (match s.dac.rcomp with | .red => .green | .green => .blue | .blue => .red)
        readIndex := if s.dac.rcomp = .blue then s.dac.readIndex + 1 else s.dac.readIndex }
      answer := some (match s.dac.rcomp with | .red => e.red | .green => e.green | .blue => e.blue) }

/-- The overlay port does what the data port does in HIDDEN mode, whatever `hdac.mode` is, and leaves `hdac.mode`
(41_hidden_dac.md R178, R179). -/
def Obligations.OverlayPortIsTheHiddenPalette : Prop :=
  DecodesAt 5 4 .wDacOverlay .rDacOverlay ∧
  ∀ (d p : Byte) (s : State),
    (GateOpen s .dacData → GateOpen s .dacOverlay →
      ∃ t, exec (.wDacData d) { s with hdac := { s.hdac with mode := .hidden } } = .next t ∧
        exec (.wDacOverlay d) s = .next { t with hdac := { mode := s.hdac.mode, phase := 0 } }) ∧
    ∃ t, exec (.rDacData p) { s with hdac := { s.hdac with mode := .hidden } } = .next t ∧
      exec (.rDacOverlay p) s = .next { t with hdac := { mode := s.hdac.mode, phase := 0 } }

/-- The banked aperture (40_register_file_bank.md R152, R153; 20_memory.md R61): a read returns the VRAM byte at
`bank << 16 | offset & 0xFFFF` of the read bank; a write stores its byte there with the write bank and leaves every other
byte and all other state. Neither is gated. -/
def Obligations.BankedAperture : Prop :=
  ∀ (o : Addr) (d p : Byte) (s : State),
    decode (.txn (txnWord 0 false o p)) = .rMem o p ∧ decode (.txn (txnWord 0 true o d)) = .wMem o d ∧
    exec (.rMem o p) s = .next { s with
      answer := some (memRead s (s.rf.bankRd.toNat * 0x10000 + o.toNat % 0x10000)) } ∧
    ∃ t, exec (.wMem o d) s = .next t ∧ t = { s with vram := t.vram } ∧
      ∀ a, memRead t a =
        if a % s.cfg.vramSize = (s.rf.bankWr.toNat * 0x10000 + o.toNat % 0x10000) % s.cfg.vramSize then d
        else memRead s a

/-- The linear aperture (40_register_file_bank.md R155, R156; 20_memory.md R64): no bank, no gate. -/
def Obligations.LinearAperture : Prop :=
  ∀ (o : Addr) (d p : Byte) (s : State),
    decode (.txn (txnWord 1 false o p)) = .rLfb o p ∧ decode (.txn (txnWord 1 true o d)) = .wLfb o d ∧
    exec (.rLfb o p) s = .next { s with answer := some (memRead s o.toNat) } ∧
    ∃ t, exec (.wLfb o d) s = .next t ∧ t = { s with vram := t.vram } ∧
      ∀ a, memRead t a = if a % s.cfg.vramSize = vramIndex s o then d else memRead s a

/-- `R BLT.STATUS` returns 0x09 while the engine is not idle and 0x00 while it is (43_blt_registers.md R231). -/
def Obligations.StatusRead : Prop :=
  DecodesAt 6 0x31 .wBltStatus .rBltStatus ∧
  ∀ (p : Byte) (s : State),
    exec (.rBltStatus p) s = .next { s with answer := some (if s.blt.fsm = .idle then 0x00 else 0x09) }

/-- `W BLT.STATUS` is discarded while the gate is shut, with START clear, and while the engine is busy
(43_blt_registers.md R230). -/
def Obligations.StatusWriteDiscarded : Prop :=
  ∀ (d : Byte) (s : State), GateShut s .bltStatus ∨ d.getLsbD 1 = false ∨ s.blt.fsm ≠ .idle →
    exec (.wBltStatus d) s = .next s

/-- A START with a zero width or height completes at once: the fields of the progress are reset, the engine is idle, VRAM
is untouched, and no byte is awaited (44_blt_engine.md R252). -/
def Obligations.DegenerateStart : Prop :=
  ∀ (d : Byte) (s : State), Starts s d → s.blt.width = 0 ∨ s.blt.height = 0 →
    exec (.wBltStatus d) s = .next { s with blt := startedBlt s.blt .idle } ∧
    ∀ b : Byte, exec (.wBltData b) { s with blt := startedBlt s.blt .idle } =
      .next { s with blt := startedBlt s.blt .idle }

/-- A START with a system source and an extent waits for data, with nothing transferred (44_blt_engine.md R251). -/
def Obligations.SystemStart : Prop :=
  ∀ (d : Byte) (s : State), Starts s d → s.blt.width ≠ 0 → s.blt.height ≠ 0 → s.blt.mode.getLsbD 2 = true →
    exec (.wBltStatus d) s = .next { s with blt := startedBlt s.blt .xferSys }

/-- `Advance()` (44_blt_engine.md R263): the next position of the row, the start of the next row, or completion. -/
def Obligations.AdvancePosition : Prop :=
  ∀ b : Blt, b.pixelCount.toNat < 0xFFFF → b.scanCount.toNat < 0xFFFF →
    (b.pixelCount.toNat + 1 < b.width.toNat →
      advanceBlt b = { b with
        pixelCount := b.pixelCount + 1
        destCurrent := BitVec.ofInt 24 (b.destCurrent.toNat + if b.mode.getLsbD 0 then -1 else 1) }) ∧
    (b.width.toNat ≤ b.pixelCount.toNat + 1 → b.scanCount.toNat + 1 < b.height.toNat →
      advanceBlt b = { b with
        pixelCount := 0
        scanCount := b.scanCount + 1
        destCurrent := BitVec.ofInt 24 (b.dest.toNat +
          (if b.mode.getLsbD 0 then -1 else 1) * ((b.scanCount.toNat + 1) * b.destPitch.toNat)) }) ∧
    (b.width.toNat ≤ b.pixelCount.toNat + 1 → b.height.toNat ≤ b.scanCount.toNat + 1 →
      advanceBlt b = { b with pixelCount := 0, scanCount := b.scanCount + 1, fsm := .idle })

/-- A VRAM-source START with an extent runs exactly `w * h` byte operations, rows outer and positions inner, each at the
destination address of its row and position, and ends idle inside the transaction, with the counts and `dest_current` as
completion leaves them and every operand register as it was (44_blt_engine.md R253, R254, R263, R264). -/
def Obligations.VramTransferRunsEveryPosition : Prop :=
  ∀ (d : Byte) (s : State), Starts s d → s.blt.width ≠ 0 → s.blt.height ≠ 0 → s.blt.mode.getLsbD 2 = false →
    ∀ u t : State, u = { s with blt := startedBlt s.blt .xferVram } → t = livePass^[area s.blt] u →
      exec (.wBltStatus d) s = .next t ∧
      (∀ k, k < area s.blt →
        (livePass^[k] u).blt.fsm = .xferVram ∧
        (livePass^[k] u).blt.scanCount.toNat = k / s.blt.width.toNat ∧
        (livePass^[k] u).blt.pixelCount.toNat = k % s.blt.width.toNat ∧
        (livePass^[k] u).blt.destCurrent = destAt s.blt k) ∧
      OnlyEngineAndVram s t ∧
      t.blt = { startedBlt s.blt .idle with
        scanCount := s.blt.height
        destCurrent := destAt s.blt (area s.blt - 1)
        sourceCurrent := t.blt.sourceCurrent }

/-- A VRAM-source transfer leaves every byte of VRAM outside its destination positions, and everything outside the engine
and VRAM (44_blt_engine.md R253, R254, R262). -/
def Obligations.VramTransferFrame : Prop :=
  ∀ (d : Byte) (s : State), Starts s d → s.blt.mode.getLsbD 2 = false →
    ∃ t, exec (.wBltStatus d) s = .next t ∧ OnlyEngineAndVram s t ∧
      ∀ a, (∀ k, k < area s.blt → a % s.cfg.vramSize ≠ vramIndex s (destAt s.blt k)) → memRead t a = memRead s a

/-- COPY without transparency from a plain VRAM source: each destination byte holds afterwards the source byte of its
position before the transfer, provided no destination byte is written before it is read as a source and no two positions
have one destination (44_blt_engine.md R269). -/
def Obligations.CopyMovesTheRectangle : Prop :=
  ∀ (d : Byte) (s : State), Starts s d → PlainVram s.blt.mode → s.blt.mode.getLsbD 3 = false → s.blt.rop = 0x0D →
    (∀ j k, j < k → k < area s.blt → vramIndex s (destAt s.blt j) ≠ vramIndex s (srcAt s.blt k)) →
    (∀ j k, j < k → k < area s.blt → vramIndex s (destAt s.blt j) ≠ vramIndex s (destAt s.blt k)) →
    ∃ t, exec (.wBltStatus d) s = .next t ∧
      ∀ k, k < area s.blt → memRead t (destAt s.blt k).toNat = memRead s (srcAt s.blt k).toNat

/-- Reverse copy to a higher address, from the high corners with equal pitches no smaller than the width, both rectangles
inside VRAM: the destination rectangle holds afterwards what the source rectangle held, however they overlap, and every
other byte is as before (44_blt_engine.md R267). -/
def Obligations.ReverseCopyUpwardIsSafe : Prop :=
  ∀ (d : Byte) (s : State) (src dst pitch w h : Nat), Starts s d →
    PlainVram s.blt.mode → s.blt.mode.getLsbD 0 = true → s.blt.mode.getLsbD 3 = false → s.blt.rop = 0x0D →
    s.blt.width.toNat = w → s.blt.height.toNat = h → 0 < w → 0 < h →
    s.blt.destPitch.toNat = pitch → s.blt.sourcePitch.toNat = pitch → w ≤ pitch →
    s.cfg.vramSize ≤ 0x1000000 → src < dst → dst + (h - 1) * pitch + w ≤ s.cfg.vramSize →
    s.blt.source.toNat = src + (h - 1) * pitch + (w - 1) → s.blt.dest.toNat = dst + (h - 1) * pitch + (w - 1) →
    ∃ t, exec (.wBltStatus d) s = .next t ∧
      (∀ y x, y < h → x < w → memRead t (dst + y * pitch + x) = memRead s (src + y * pitch + x)) ∧
      ∀ a, a < s.cfg.vramSize → (∀ y x, y < h → x < w → a ≠ dst + y * pitch + x) → memRead t a = memRead s a

/-- Forward copy to an address no higher, from the low corners with equal pitches no smaller than the width, both rectangles
inside VRAM: as the reverse copy to a higher address (44_blt_engine.md R267). -/
def Obligations.ForwardCopyDownwardIsSafe : Prop :=
  ∀ (d : Byte) (s : State) (src dst pitch w h : Nat), Starts s d →
    PlainVram s.blt.mode → s.blt.mode.getLsbD 0 = false → s.blt.mode.getLsbD 3 = false → s.blt.rop = 0x0D →
    s.blt.width.toNat = w → s.blt.height.toNat = h → 0 < w → 0 < h →
    s.blt.destPitch.toNat = pitch → s.blt.sourcePitch.toNat = pitch → w ≤ pitch →
    s.cfg.vramSize ≤ 0x1000000 → dst ≤ src → src + (h - 1) * pitch + w ≤ s.cfg.vramSize →
    s.blt.source.toNat = src → s.blt.dest.toNat = dst →
    ∃ t, exec (.wBltStatus d) s = .next t ∧
      (∀ y x, y < h → x < w → memRead t (dst + y * pitch + x) = memRead s (src + y * pitch + x)) ∧
      ∀ a, a < s.cfg.vramSize → (∀ y x, y < h → x < w → a ≠ dst + y * pitch + x) → memRead t a = memRead s a

/-- With transparency on and an all-zero mask byte the transfer writes nothing and still runs to completion
(44_blt_engine.md R262). -/
def Obligations.AllZeroMaskWritesNothing : Prop :=
  ∀ (d : Byte) (s : State), Starts s d → s.blt.mode.getLsbD 2 = false → s.blt.mode.getLsbD 3 = true →
    s.blt.transColourMask.extractLsb' 0 8 = 0 →
    ∃ t, exec (.wBltStatus d) s = .next t ∧ t.vram = s.vram ∧ t.blt.fsm = .idle

/-- The data-feed port discards a byte no system transfer waits for, is unprotected by default, and reads as
`UNASSIGNED_READ` (43_blt_registers.md R232, R233). -/
def Obligations.DataPortWithoutTransfer : Prop :=
  DecodesAt 6 0x3F .wBltData .rBltData ∧
  Config.default.protectedRegs.contains .bltData = false ∧
  ∀ (d p : Byte) (s : State),
    (s.blt.fsm ≠ .xferSys ∨ GateShut s .bltData → exec (.wBltData d) s = .next s) ∧
    exec (.rBltData p) s = .next { s with answer := some s.cfg.unassignedRead }

/-- A byte fed without colour expansion is one byte operation at `dest_current` with the byte as its source operand, and the
advance; and what the byte operation does to VRAM in any state: nothing where the key matches under the mask, else the raster
operation of the operand and the current destination byte (44_blt_engine.md R262, R266). -/
def Obligations.PlainFeedIsOneByteOperation : Prop :=
  (∀ (d : Byte) (s : State), s.blt.fsm = .xferSys → GateOpen s .bltData → s.blt.mode.getLsbD 7 = false →
    ∃ t, exec (.wBltData d) s = .next t ∧ OnlyEngineAndVram s t ∧
      t.blt = { advanceBlt s.blt with systemBuffer := d.setWidth 32, systemCount := 0 } ∧
      (SkippedByKey s.blt d → t.vram = s.vram) ∧
      (¬ SkippedByKey s.blt d → ∀ a, memRead t a =
        if a % s.cfg.vramSize = vramIndex s s.blt.destCurrent
        then rop s.cfg.rops s.blt.rop d (memRead s s.blt.destCurrent.toNat) else memRead s a)) ∧
  ∀ (sb : Byte) (s u : State), u = commit (liveRaster s) sb s →
    u = { s with vram := u.vram } ∧
    (SkippedByKey s.blt sb → u.vram = s.vram) ∧
    (¬ SkippedByKey s.blt sb → ∀ a, memRead u a =
      if a % s.cfg.vramSize = vramIndex s s.blt.destCurrent
      then rop s.cfg.rops s.blt.rop sb (memRead s s.blt.destCurrent.toNat) else memRead s a)

/-- A byte fed in colour expansion makes as many byte operations as it has pixel bytes left in the row, bit 7 first, low
colour byte first, and drops the rest at the row's end (44_blt_engine.md R266). -/
def Obligations.ExpandedFeedFillsTheRow : Prop :=
  ∀ (d : Byte) (s : State), s.blt.fsm = .xferSys → GateOpen s .bltData → s.blt.mode.getLsbD 7 = true →
    s.blt.pixelCount.toNat < s.blt.width.toNat →
    ∀ (bpp m : Nat) (staged fed : State) (colour : Nat → Byte), bpp = (if s.blt.mode.getLsbD 4 then 2 else 1) →
      (∀ n, n < m → SelectedColour s.rf (d.getLsbD (7 - n / bpp)) (n % bpp) (colour n)) →
      m = min (8 * bpp) (s.blt.width.toNat - s.blt.pixelCount.toNat) →
      staged = { s with blt := { s.blt with systemBuffer := d.setWidth 32, systemCount := 1 } } →
      fed = (List.range m).foldl
        (fun u n => advance (commit (liveRaster u) (colour n) u)) staged →
      exec (.wBltData d) s = .next { fed with blt := { fed.blt with systemCount := 0 } } ∧
      fed.blt.pixelCount.toNat =
        (if s.blt.pixelCount.toNat + m < s.blt.width.toNat then s.blt.pixelCount.toNat + m else 0) ∧
      fed.blt.scanCount =
        (if s.blt.pixelCount.toNat + m < s.blt.width.toNat then s.blt.scanCount else s.blt.scanCount + 1)

/-- A plain system transfer waits until exactly `w * h` bytes have been fed and is idle from then on (44_blt_engine.md R265,
R266; 70_reset_and_hazards.md R355). -/
def Obligations.PlainSystemTransferByteCount : Prop :=
  ∀ (d : Byte) (s : State) (bytes : List Byte), Starts s d → GateOpen s .bltData →
    s.blt.width ≠ 0 → s.blt.height ≠ 0 → s.blt.mode.getLsbD 2 = true → s.blt.mode.getLsbD 7 = false →
    ∃ t, execAll (.wBltStatus d :: bytes.map .wBltData) s = some t ∧
      t.blt.fsm = if bytes.length < area s.blt then .xferSys else .idle

/-- A colour-expanding system transfer waits until exactly `ceil(ceil(w / bpp) / 8)` bytes for each row have been fed and is
idle from then on (44_blt_engine.md R266; 70_reset_and_hazards.md R355). -/
def Obligations.ExpandedSystemTransferByteCount : Prop :=
  ∀ (d : Byte) (s : State) (bytes : List Byte), Starts s d → GateOpen s .bltData →
    s.blt.width ≠ 0 → s.blt.height ≠ 0 → s.blt.mode.getLsbD 2 = true → s.blt.mode.getLsbD 7 = true →
    ∃ t, execAll (.wBltStatus d :: bytes.map .wBltData) s = some t ∧
      t.blt.fsm = if bytes.length < s.blt.height.toNat * bytesPerRow s.blt then .xferSys else .idle

/-- A plain system transfer leaves the VRAM that the VRAM-source transfer leaves whose source region holds the fed bytes in
processing order, with source pitch `w`, not overlapped by the destination (44_blt_engine.md R268). -/
def Obligations.SystemTransferEqualsVramTransfer : Prop :=
  ∀ (d : Byte) (s v : State) (src : Addr) (bytes : List Byte), Starts s d → GateOpen s .bltData →
    s.blt.width ≠ 0 → s.blt.height ≠ 0 → s.blt.mode.getLsbD 2 = true → s.blt.mode.getLsbD 7 = false →
    v = { s with blt := { s.blt with mode := s.blt.mode &&& 0xBB, source := src, sourcePitch := s.blt.width } } →
    bytes.length = area s.blt →
    (∀ k, k < area s.blt → bytes[k]? = some (memRead s (srcAt v.blt k).toNat)) →
    (∀ j k, j < area s.blt → k < area s.blt → vramIndex s (destAt s.blt j) ≠ vramIndex s (srcAt v.blt k)) →
    ∃ t u, execAll (.wBltStatus d :: bytes.map .wBltData) s = some t ∧ exec (.wBltStatus d) v = .next u ∧
      t.vram = u.vram

/-- The raster-operation function (45_blt_rops.md R290..R307): each of the sixteen codes that the variant implements gives
the result of its rule; every other code, and one the variant lacks, gives the source operand. -/
def Obligations.RasterFunctionTable : Prop :=
  ∀ (rops : List Byte) (S D : Byte),
    (∀ code, code ∉ rops ∨ code ∉ Config.allRops → rop rops code S D = S) ∧
    (0x00 ∈ rops → rop rops 0x00 S D = 0x00) ∧
    (0x05 ∈ rops → rop rops 0x05 S D = S &&& D) ∧
    (0x06 ∈ rops → rop rops 0x06 S D = D) ∧
    (0x09 ∈ rops → rop rops 0x09 S D = S &&& ~~~D) ∧
    (0x0B ∈ rops → rop rops 0x0B S D = ~~~D) ∧
    (0x0D ∈ rops → rop rops 0x0D S D = S) ∧
    (0x0E ∈ rops → rop rops 0x0E S D = 0xFF) ∧
    (0x50 ∈ rops → rop rops 0x50 S D = ~~~S &&& D) ∧
    (0x59 ∈ rops → rop rops 0x59 S D = S ^^^ D) ∧
    (0x6D ∈ rops → rop rops 0x6D S D = S ||| D) ∧
    (0x90 ∈ rops → rop rops 0x90 S D = ~~~(S ||| D)) ∧
    (0x95 ∈ rops → rop rops 0x95 S D = ~~~(S ^^^ D)) ∧
    (0xAD ∈ rops → rop rops 0xAD S D = S ||| ~~~D) ∧
    (0xD0 ∈ rops → rop rops 0xD0 S D = ~~~S) ∧
    (0xD6 ∈ rops → rop rops 0xD6 S D = ~~~S ||| D) ∧
    (0xDA ∈ rops → rop rops 0xDA S D = ~~~(S &&& D))

/-- The raster-operation rows of codes 0x00 to 0x50 (45_blt_rops.md R290..R297; that a row is an instruction of the engine is
the model's choice, notes/assumptions/5.md). -/
def Obligations.RasterRowsZeroToNotSrcAndDst : Prop :=
  RasterRowRule 0x00 .ropZero (fun _ _ => 0x00) ∧
  RasterRowRule 0x05 .ropAnd (fun S D => S &&& D) ∧
  RasterRowRule 0x06 .ropNop (fun _ D => D) ∧
  RasterRowRule 0x09 .ropSrcAndNotDst (fun S D => S &&& ~~~D) ∧
  RasterRowRule 0x0B .ropNotDst (fun _ D => ~~~D) ∧
  RasterRowRule 0x0D .ropCopy (fun S _ => S) ∧
  RasterRowRule 0x0E .ropOne (fun _ _ => 0xFF) ∧
  RasterRowRule 0x50 .ropNotSrcAndDst (fun S D => ~~~S &&& D)

/-- The raster-operation rows of codes 0x59 to 0xDA, and the default of every other code (45_blt_rops.md R298..R305,
R307; that a row is an instruction of the engine is the model's choice, notes/assumptions/5.md). -/
def Obligations.RasterRowsXorToDefault : Prop :=
  RasterRowRule 0x59 .ropXor (fun S D => S ^^^ D) ∧
  RasterRowRule 0x6D .ropOr (fun S D => S ||| D) ∧
  RasterRowRule 0x90 .ropNor (fun S D => ~~~(S ||| D)) ∧
  RasterRowRule 0x95 .ropXnor (fun S D => ~~~(S ^^^ D)) ∧
  RasterRowRule 0xAD .ropSrcOrNotDst (fun S D => S ||| ~~~D) ∧
  RasterRowRule 0xD0 .ropNotSrc (fun S _ => ~~~S) ∧
  RasterRowRule 0xD6 .ropNotSrcOrDst (fun S D => ~~~S ||| D) ∧
  RasterRowRule 0xDA .ropNand (fun S D => ~~~(S &&& D)) ∧
  ∀ code : Byte, code ∉ Config.allRops → RasterRowRule code (.ropDefault code) (fun S _ => S)

/-- The row that `blt.rop` selects is one pass of the transfer's loop with the live raster operation (44_blt_engine.md R253,
45_blt_rops.md R306; that a row is an instruction of the engine is the model's choice, notes/assumptions/5.md). -/
def Obligations.SelectedRowIsOnePass : Prop :=
  ∀ s : State, s.blt.fsm = .xferVram → exec (decode (.rop s.blt.rop)) s = .next (livePass s)

/-- The protected-write gate: while the chip is locked, a write of a register that the `PROTECTED` table protects changes
nothing, whatever register it is (40_register_file_bank.md R120; for `SEQ.LOCK` and the DAC ports, which only another table
protects, the model's reading, notes/assumptions/16.md). With the default table, nothing but `W SEQ.LOCK` can then change the
register file beyond `GC.BG0` and `GC.FG0`, the cursor beyond the extended palette, or a BLT operand register; and an idle
engine stays as it is (R121; 60_exceptions.md R327). -/
def Obligations.LockedChipKeepsProtectedState : Prop :=
  (∀ (i : Instr) (r : Reg) (s : State), writtenRegister i = some r → GateShut s r → exec i s = .next s) ∧
  ∀ (i : Instr) (s : State), s.cfg.protectedRegs = Config.defaultProtected → s.rf.lockReg ≠ s.cfg.unlockKey →
    (∀ d, i ≠ .wSeqLock d) →
    ∃ t, exec i s = .next t ∧
      t.rf = { s.rf with bg0 := t.rf.bg0, fg0 := t.rf.fg0 } ∧
      t.cur = { s.cur with extPalette := t.cur.extPalette } ∧
      t.blt = { s.blt with
        fsm := t.blt.fsm, sourceCurrent := t.blt.sourceCurrent, destCurrent := t.blt.destCurrent
        pixelCount := t.blt.pixelCount, scanCount := t.blt.scanCount
        systemBuffer := t.blt.systemBuffer, systemCount := t.blt.systemCount } ∧
      (s.blt.fsm = .idle → t.blt = s.blt)

/-- A system transfer in progress is kept by every instruction but a data feed: the engine goes on waiting where it was
(20_memory.md R73, 44_blt_engine.md R250, 60_exceptions.md R325). -/
def Obligations.OtherTransactionsKeepTheTransfer : Prop :=
  ∀ (i : Instr) (s : State), s.blt.fsm = .xferSys → (∀ d, i ≠ .wBltData d) →
    ∃ t, exec i s = .next t ∧ t.blt.fsm = .xferSys ∧
      t.blt.scanCount = s.blt.scanCount ∧ t.blt.pixelCount = s.blt.pixelCount ∧
      t.blt.destCurrent = s.blt.destCurrent ∧ t.blt.sourceCurrent = s.blt.sourceCurrent ∧
      t.blt.systemBuffer = s.blt.systemBuffer ∧ t.blt.systemCount = s.blt.systemCount

/-- The transitions of the engine between transactions (44_blt_engine.md R250): from idle only a START with a system source
and an extent leads anywhere else, to the waiting state; from there only a data feed that completes the last row leads back
to idle. -/
def Obligations.EngineTransitions : Prop :=
  ∀ (i : Instr) (s t : State), exec i s = .next t →
    (s.blt.fsm = .idle → t.blt.fsm = .idle ∨
      (t.blt.fsm = .xferSys ∧ s.blt.mode.getLsbD 2 = true ∧ s.blt.width ≠ 0 ∧ s.blt.height ≠ 0 ∧
        ∃ d, i = .wBltStatus d ∧ Starts s d)) ∧
    (s.blt.fsm = .xferSys → t.blt.fsm = .xferSys ∨
      (t.blt.fsm = .idle ∧ s.blt.height.toNat ≤ t.blt.scanCount.toNat ∧ ∃ d, i = .wBltData d))

/-- A system transfer stays where its counts say, below its extent, under every instruction that writes no BLT operand
register (10_state.md R45(b), (c)). -/
def Obligations.InstructionsKeepTracking : Prop :=
  ∀ (i : Instr) (s t : State), Tracking s → writesOperand i = false → exec i s = .next t → Tracking t

/-- Every instruction and every step answers a next state: no transaction faults or is refused, in any state
(60_exceptions.md R320). -/
def Obligations.EveryStepAnswersNext : Prop :=
  (∀ (i : Instr) (s : State), ∃ t, exec i s = .next t) ∧ ∀ s : State, ∃ t, step s = .next t

/-- Every step keeps the invariant of states between two transactions (10_state.md R45 and the masks of the rules). -/
def Obligations.StepKeepsInvariant : Prop :=
  ∀ s t : State, Invariant s → step s = .next t → Invariant t

/-- The machine after power-on satisfies the invariant. It rests on the model's choices for VRAM and the clock bytes only
where they are zero (notes/assumptions/7.md, 9.md). -/
def Obligations.ResetSatisfiesInvariant : Prop := Invariant State.reset ∧ Tracking State.reset

/-- Decoding the word of a well-formed instruction gives the instruction back, with every operand at every value
(30_encoding.md R90..R99, R102, R106). -/
def Obligations.DecodeOfEncode : Prop := ∀ i : Instr, i.wf = true → decode (encode i) = i

/-- Every 40-bit word and every value of `blt.rop` decodes to a well-formed instruction, which encodes to it again: no word
has two instructions and no bit is dropped (30_encoding.md R105, R106). -/
def Obligations.EncodeOfDecode : Prop := ∀ c : Code, (decode c).wf = true ∧ encode (decode c) = c

/-- A step runs the decoded instruction (00_scope.md R8; how instructions are fetched is the model's choice,
notes/assumptions/2.md and 5.md): the oldest pending transaction, taken off the queue with no byte answered yet, while the
engine is between transactions; the raster-operation row of `blt.rop` inside a VRAM transfer; nothing, where nothing is
pending. -/
def Obligations.StepRunsTheInstruction : Prop :=
  (∀ (s : State) (w : Txn) (rest : List HostEvent), s.pending = .txn w :: rest →
    s.blt.fsm = .idle ∨ s.blt.fsm = .xferSys →
    step s = exec (decode (.txn w)) { s with pending := rest, answer := none }) ∧
  (∀ s : State, s.blt.fsm = .xferVram → (∀ rest, s.pending ≠ .reset :: rest) →
    step s = exec (decode (.rop s.blt.rop)) s) ∧
  ∀ s : State, s.pending = [] → s.blt.fsm = .idle ∨ s.blt.fsm = .xferSys → step s = .next s

/-- Words decode to their instructions: the thirteen decoding examples of 95_test_vectors.md section 2.8, one word each made from
the tables of 30_encoding.md R94 and R96, and two values of `blt.rop` (R102). That `decodeTableWord` takes a word of 8 bits
as a value of `blt.rop` and one of 40 bits as a transaction is the model's choice (notes/assumptions/31.md). -/
def Obligations.SpecWordsDecode : Prop :=
  decodeTableWord 40 0x610000320D = some (.wBltRop 0x0D) ∧
  decodeTableWord 40 0x6000003100 = some (.rBltStatus 0x00) ∧
  decodeTableWord 40 0x2100000612 = some (.wSeqLock 0x12) ∧
  decodeTableWord 40 0x2100005028 = some (.wSeqCursorX 2 0x28) ∧
  decodeTableWord 40 0x2100003255 = some (.wSeqUnassigned 0x32 0x55) ∧
  decodeTableWord 40 0x0001010000 = some (.rMem 0x010100 0x00) ∧
  decodeTableWord 40 0x111FC10080 = some (.wLfb 0x1FC100 0x80) ∧
  decodeTableWord 40 0x5000000000 = some (.rDacMask 0x00) ∧
  decodeTableWord 40 0x5100010000 = some (.wDacUnassigned 0x000100 0x00) ∧
  decodeTableWord 40 0x7100000101 = some (.wBankWr 0x01) ∧
  decodeTableWord 40 0x6100013200 = some (.wBltUnassigned 0x000132 0x00) ∧
  decodeTableWord 40 0x8000000000 = some (.invalidSpace 0x8000000000) ∧
  decodeTableWord 40 0x6300003200 = some (.invalidBit33 0x6300003200) ∧
  decodeTableWord 40 0x3100001003 = some (.wGcBg1 0x03) ∧
  decodeTableWord 40 0x4000002700 = some (.rCrtcId 0x00) ∧
  decodeTableWord 8 0x59 = some .ropXor ∧
  decodeTableWord 8 0x01 = some (.ropDefault 0x01)

/-- The first observations after a reset of a device with the default parameters, whatever it did before
(70_reset_and_hazards.md R342). -/
def Obligations.FirstObservationsAfterReset : Prop :=
  ∀ (u s : State) (o : Addr) (p : Byte), u.cfg = Config.default → s = deviceReset u →
    exec (.rSeqLock p) s = .next { s with answer := some 0x0F } ∧
    exec (.rBltStatus p) s = .next { s with answer := some 0x00 } ∧
    exec (.rBankRd p) s = .next { s with answer := some 0x00 } ∧
    exec (.rBltRop p) s = .next { s with answer := some 0x00 } ∧
    exec (.rDacMask p) s = .next { s with answer := some 0xFF, hdac := { s.hdac with phase := 1 } } ∧
    exec (.rMem o p) s = .next { s with answer := some (memRead u (o.toNat % 0x10000)) }

/-- A pending reset takes one step: every field of the register file (the clock bytes have that of the OPEN parameter
`VCLK_RESET`), of the DAC but the palette, of the cursor and of the engine has its reset value, a system transfer in
progress is abandoned, VRAM and the base palette are kept (70_reset_and_hazards.md R340, R341; 10_state.md R51). -/
def Obligations.DeviceResetStep : Prop :=
  ∀ (s : State) (rest : List HostEvent), s.pending = .reset :: rest →
    ∃ t, step s = .next t ∧ t.vram = s.vram ∧ t.cfg = s.cfg ∧ t.pending = rest ∧
      t.rf = { t.rf with
        lockReg := 0, seqExtMode := 0, scratch := List.replicate s.cfg.nScratch 0, gcModeExt := 0
        bankRd := 0, bankWr := 0, bg0 := 0, bg1 := 0, fg0 := 0, fg1 := 0
        crtcExt19 := 0, crtcExt1A := 0, crtcExt1B := 0 } ∧
      (t.rf.vclkNum.length = s.cfg.nVclk ∧ t.rf.vclkDenom.length = s.cfg.nVclk ∧
        ∀ k, k < s.cfg.nVclk → t.rf.vclkNum[k]? = some (s.cfg.vclkReset.getD k (0, 0)).1 ∧
          t.rf.vclkDenom[k]? = some (s.cfg.vclkReset.getD k (0, 0)).2) ∧
      t.hdac = { mode := .normal, phase := 0 } ∧
      t.dac = { pelMask := 0xFF, writeIndex := 0, readIndex := 0, wcomp := .red, rcomp := .red
                palette := s.dac.palette } ∧
      t.cur = { x := 0, y := 0, addrReg := 0, attr := 0
                extPalette := Vector.replicate 16 { red := 0, green := 0, blue := 0 } } ∧
      t.blt = { width := 0, height := 0, destPitch := 0, sourcePitch := 0, dest := 0, source := 0, mode := 0, rop := 0
                transColour := 0, transColourMask := 0, fsm := .idle, sourceCurrent := 0, destCurrent := 0
                pixelCount := 0, scanCount := 0, systemBuffer := 0, systemCount := 0 }

/-- No step changes a parameter, and a step takes at most the oldest pending host event (10_state.md R11; 20_memory.md
R70). -/
def Obligations.StepKeepsParametersAndOrder : Prop :=
  ∀ s t : State, step s = .next t →
    t.cfg = s.cfg ∧ (t.pending = s.pending ∨ ∃ e, s.pending = e :: t.pending)

/-- The cursor overlay (42_cursor_overlay.md R198): nothing while disabled or outside the box, else, with one bit per pixel,
entry 15 or entry 0 of the extended palette by the bitmap's bit, bit 7 first. -/
def Obligations.CursorOverlayPixel : Prop :=
  ∀ (s : State) (px py : Int) (side : Nat),
    (s.cfg.cursorSize = .px32 → side = 32) → (s.cfg.cursorSize = .px64 → side = 64) →
    (s.cur.attr.getLsbD 0 = false → overlay s px py = .none) ∧
    (px < s.cur.x.toNat ∨ s.cur.x.toNat + side ≤ px ∨
        py < s.cur.y.toNat ∨ s.cur.y.toNat + side ≤ py → overlay s px py = .none) ∧
    ∀ cx cy : Nat, s.cfg.cursorBpp = .one → s.cur.attr.getLsbD 0 = true → cx < side → cy < side →
      overlay s (s.cur.x.toNat + cx) (s.cur.y.toNat + cy) =
        .colour (if (memRead s (cursorBase s + cy * (side / 8) + cx / 8)).getLsbD (7 - cx % 8)
          then s.cur.extPalette[15] else s.cur.extPalette[0])

/-- The bitmap's base address in the top 16 KiB of VRAM, in 256-byte slots selected by the source address register
(42_cursor_overlay.md R197). -/
def Obligations.CursorBitmapBase : Prop :=
  ∀ s : State, 0x4000 ≤ s.cfg.vramSize →
    (s.cfg.cursorSize = .px32 →
      cursorBase s = s.cfg.vramSize - 0x4000 + (s.cur.addrReg.toNat % 64) * 256) ∧
    (s.cfg.cursorSize = .px64 →
      cursorBase s = s.cfg.vramSize - 0x4000 + (s.cur.addrReg.toNat % 64 / 4 * 4) * 256)
end

