-- ==== Sys2Proof/Laws/State.lean ====
section
/-! SUPPORT. What each named update does to each field of the state: one lemma per field, all by computation. -/

namespace Sys2Proof.Machine

/-! ### `answerByte` -/

@[simp] theorem answerByte_rf (v : Byte) (s : State) :
    (answerByte v s).rf = s.rf := rfl

@[simp] theorem answerByte_hdac (v : Byte) (s : State) :
    (answerByte v s).hdac = s.hdac := rfl

@[simp] theorem answerByte_dac (v : Byte) (s : State) :
    (answerByte v s).dac = s.dac := rfl

@[simp] theorem answerByte_cur (v : Byte) (s : State) :
    (answerByte v s).cur = s.cur := rfl

@[simp] theorem answerByte_blt (v : Byte) (s : State) :
    (answerByte v s).blt = s.blt := rfl

@[simp] theorem answerByte_vram (v : Byte) (s : State) :
    (answerByte v s).vram = s.vram := rfl

@[simp] theorem answerByte_cfg (v : Byte) (s : State) :
    (answerByte v s).cfg = s.cfg := rfl

@[simp] theorem answerByte_pending (v : Byte) (s : State) :
    (answerByte v s).pending = s.pending := rfl

@[simp] theorem answerByte_answer (v : Byte) (s : State) :
    (answerByte v s).answer = some v := rfl

@[simp] theorem answerByte_dacDraws (v : Byte) (s : State) :
    (answerByte v s).dacDraws = s.dacDraws := rfl

/-! ### `takeEvent` -/

@[simp] theorem takeEvent_rf (rest : List HostEvent) (s : State) :
    (takeEvent rest s).rf = s.rf := rfl

@[simp] theorem takeEvent_hdac (rest : List HostEvent) (s : State) :
    (takeEvent rest s).hdac = s.hdac := rfl

@[simp] theorem takeEvent_dac (rest : List HostEvent) (s : State) :
    (takeEvent rest s).dac = s.dac := rfl

@[simp] theorem takeEvent_cur (rest : List HostEvent) (s : State) :
    (takeEvent rest s).cur = s.cur := rfl

@[simp] theorem takeEvent_blt (rest : List HostEvent) (s : State) :
    (takeEvent rest s).blt = s.blt := rfl

@[simp] theorem takeEvent_vram (rest : List HostEvent) (s : State) :
    (takeEvent rest s).vram = s.vram := rfl

@[simp] theorem takeEvent_cfg (rest : List HostEvent) (s : State) :
    (takeEvent rest s).cfg = s.cfg := rfl

@[simp] theorem takeEvent_pending (rest : List HostEvent) (s : State) :
    (takeEvent rest s).pending = rest := rfl

@[simp] theorem takeEvent_answer (rest : List HostEvent) (s : State) :
    (takeEvent rest s).answer = none := rfl

@[simp] theorem takeEvent_dacDraws (rest : List HostEvent) (s : State) :
    (takeEvent rest s).dacDraws = s.dacDraws := rfl

/-! ### `memWrite` -/

@[simp] theorem memWrite_rf (s : State) (a : Nat) (v : Byte) :
    (memWrite s a v).rf = s.rf := rfl

@[simp] theorem memWrite_hdac (s : State) (a : Nat) (v : Byte) :
    (memWrite s a v).hdac = s.hdac := rfl

@[simp] theorem memWrite_dac (s : State) (a : Nat) (v : Byte) :
    (memWrite s a v).dac = s.dac := rfl

@[simp] theorem memWrite_cur (s : State) (a : Nat) (v : Byte) :
    (memWrite s a v).cur = s.cur := rfl

@[simp] theorem memWrite_blt (s : State) (a : Nat) (v : Byte) :
    (memWrite s a v).blt = s.blt := rfl

@[simp] theorem memWrite_vram (s : State) (a : Nat) (v : Byte) :
    (memWrite s a v).vram = s.vram.write (a % s.cfg.vramSize) v := rfl

@[simp] theorem memWrite_cfg (s : State) (a : Nat) (v : Byte) :
    (memWrite s a v).cfg = s.cfg := rfl

@[simp] theorem memWrite_pending (s : State) (a : Nat) (v : Byte) :
    (memWrite s a v).pending = s.pending := rfl

@[simp] theorem memWrite_answer (s : State) (a : Nat) (v : Byte) :
    (memWrite s a v).answer = s.answer := rfl

@[simp] theorem memWrite_dacDraws (s : State) (a : Nat) (v : Byte) :
    (memWrite s a v).dacDraws = s.dacDraws := rfl

/-! ### `deviceReset` -/

@[simp] theorem deviceReset_rf (s : State) :
    (deviceReset s).rf = RegFile.reset s.cfg := rfl

@[simp] theorem deviceReset_hdac (s : State) :
    (deviceReset s).hdac = HiddenDac.reset := rfl

@[simp] theorem deviceReset_dac (s : State) :
    (deviceReset s).dac = BaseDac.reset s.dac.palette := rfl

@[simp] theorem deviceReset_cur (s : State) :
    (deviceReset s).cur = Cursor.reset := rfl

@[simp] theorem deviceReset_blt (s : State) :
    (deviceReset s).blt = Blt.reset := rfl

@[simp] theorem deviceReset_vram (s : State) :
    (deviceReset s).vram = s.vram := rfl

@[simp] theorem deviceReset_cfg (s : State) :
    (deviceReset s).cfg = s.cfg := rfl

@[simp] theorem deviceReset_pending (s : State) :
    (deviceReset s).pending = s.pending := rfl

@[simp] theorem deviceReset_answer (s : State) :
    (deviceReset s).answer = s.answer := rfl

@[simp] theorem deviceReset_dacDraws (s : State) :
    (deviceReset s).dacDraws = s.dacDraws := rfl

/-! ### `phaseReset` -/

@[simp] theorem phaseReset_rf (s : State) :
    (phaseReset s).rf = s.rf := rfl

@[simp] theorem phaseReset_hdac (s : State) :
    (phaseReset s).hdac = { s.hdac with phase := 0 } := rfl

@[simp] theorem phaseReset_dac (s : State) :
    (phaseReset s).dac = s.dac := rfl

@[simp] theorem phaseReset_cur (s : State) :
    (phaseReset s).cur = s.cur := rfl

@[simp] theorem phaseReset_blt (s : State) :
    (phaseReset s).blt = s.blt := rfl

@[simp] theorem phaseReset_vram (s : State) :
    (phaseReset s).vram = s.vram := rfl

@[simp] theorem phaseReset_cfg (s : State) :
    (phaseReset s).cfg = s.cfg := rfl

@[simp] theorem phaseReset_pending (s : State) :
    (phaseReset s).pending = s.pending := rfl

@[simp] theorem phaseReset_answer (s : State) :
    (phaseReset s).answer = s.answer := rfl

@[simp] theorem phaseReset_dacDraws (s : State) :
    (phaseReset s).dacDraws = s.dacDraws := rfl

/-! ### `putCursorX` -/

@[simp] theorem putCursorX_rf (c : BitVec 11) (s : State) :
    (putCursorX c s).rf = s.rf := rfl

@[simp] theorem putCursorX_hdac (c : BitVec 11) (s : State) :
    (putCursorX c s).hdac = s.hdac := rfl

@[simp] theorem putCursorX_dac (c : BitVec 11) (s : State) :
    (putCursorX c s).dac = s.dac := rfl

@[simp] theorem putCursorX_cur (c : BitVec 11) (s : State) :
    (putCursorX c s).cur = { s.cur with x := c } := rfl

@[simp] theorem putCursorX_blt (c : BitVec 11) (s : State) :
    (putCursorX c s).blt = s.blt := rfl

@[simp] theorem putCursorX_vram (c : BitVec 11) (s : State) :
    (putCursorX c s).vram = s.vram := rfl

@[simp] theorem putCursorX_cfg (c : BitVec 11) (s : State) :
    (putCursorX c s).cfg = s.cfg := rfl

@[simp] theorem putCursorX_pending (c : BitVec 11) (s : State) :
    (putCursorX c s).pending = s.pending := rfl

@[simp] theorem putCursorX_answer (c : BitVec 11) (s : State) :
    (putCursorX c s).answer = s.answer := rfl

@[simp] theorem putCursorX_dacDraws (c : BitVec 11) (s : State) :
    (putCursorX c s).dacDraws = s.dacDraws := rfl

/-! ### `putCursorY` -/

@[simp] theorem putCursorY_rf (c : BitVec 11) (s : State) :
    (putCursorY c s).rf = s.rf := rfl

@[simp] theorem putCursorY_hdac (c : BitVec 11) (s : State) :
    (putCursorY c s).hdac = s.hdac := rfl

@[simp] theorem putCursorY_dac (c : BitVec 11) (s : State) :
    (putCursorY c s).dac = s.dac := rfl

@[simp] theorem putCursorY_cur (c : BitVec 11) (s : State) :
    (putCursorY c s).cur = { s.cur with y := c } := rfl

@[simp] theorem putCursorY_blt (c : BitVec 11) (s : State) :
    (putCursorY c s).blt = s.blt := rfl

@[simp] theorem putCursorY_vram (c : BitVec 11) (s : State) :
    (putCursorY c s).vram = s.vram := rfl

@[simp] theorem putCursorY_cfg (c : BitVec 11) (s : State) :
    (putCursorY c s).cfg = s.cfg := rfl

@[simp] theorem putCursorY_pending (c : BitVec 11) (s : State) :
    (putCursorY c s).pending = s.pending := rfl

@[simp] theorem putCursorY_answer (c : BitVec 11) (s : State) :
    (putCursorY c s).answer = s.answer := rfl

@[simp] theorem putCursorY_dacDraws (c : BitVec 11) (s : State) :
    (putCursorY c s).dacDraws = s.dacDraws := rfl

/-! ### `advance` -/

@[simp] theorem advance_rf (s : State) :
    (advance s).rf = s.rf := rfl

@[simp] theorem advance_hdac (s : State) :
    (advance s).hdac = s.hdac := rfl

@[simp] theorem advance_dac (s : State) :
    (advance s).dac = s.dac := rfl

@[simp] theorem advance_cur (s : State) :
    (advance s).cur = s.cur := rfl

@[simp] theorem advance_blt (s : State) :
    (advance s).blt = advanceBlt s.blt := rfl

@[simp] theorem advance_vram (s : State) :
    (advance s).vram = s.vram := rfl

@[simp] theorem advance_cfg (s : State) :
    (advance s).cfg = s.cfg := rfl

@[simp] theorem advance_pending (s : State) :
    (advance s).pending = s.pending := rfl

@[simp] theorem advance_answer (s : State) :
    (advance s).answer = s.answer := rfl

@[simp] theorem advance_dacDraws (s : State) :
    (advance s).dacDraws = s.dacDraws := rfl

/-! ### `putStored`: the fields no stored-byte register is bound to -/

@[simp] theorem putStored_hdac (r : StoredReg) (v : Byte) (s : State) :
    (putStored r v s).hdac = s.hdac := by
  cases r <;> rfl

@[simp] theorem putStored_dac (r : StoredReg) (v : Byte) (s : State) :
    (putStored r v s).dac = s.dac := by
  cases r <;> rfl

@[simp] theorem putStored_vram (r : StoredReg) (v : Byte) (s : State) :
    (putStored r v s).vram = s.vram := by
  cases r <;> rfl

@[simp] theorem putStored_cfg (r : StoredReg) (v : Byte) (s : State) :
    (putStored r v s).cfg = s.cfg := by
  cases r <;> rfl

@[simp] theorem putStored_pending (r : StoredReg) (v : Byte) (s : State) :
    (putStored r v s).pending = s.pending := by
  cases r <;> rfl

@[simp] theorem putStored_answer (r : StoredReg) (v : Byte) (s : State) :
    (putStored r v s).answer = s.answer := by
  cases r <;> rfl

@[simp] theorem putStored_dacDraws (r : StoredReg) (v : Byte) (s : State) :
    (putStored r v s).dacDraws = s.dacDraws := by
  cases r <;> rfl

/-! ### `writeStored`: the same -/

@[simp] theorem writeStored_hdac (r : StoredReg) (v : Byte) (s : State) :
    (writeStored r v s).hdac = s.hdac := by
  unfold writeStored gated
  repeat' split
  all_goals simp

@[simp] theorem writeStored_dac (r : StoredReg) (v : Byte) (s : State) :
    (writeStored r v s).dac = s.dac := by
  unfold writeStored gated
  repeat' split
  all_goals simp

@[simp] theorem writeStored_vram (r : StoredReg) (v : Byte) (s : State) :
    (writeStored r v s).vram = s.vram := by
  unfold writeStored gated
  repeat' split
  all_goals simp

@[simp] theorem writeStored_cfg (r : StoredReg) (v : Byte) (s : State) :
    (writeStored r v s).cfg = s.cfg := by
  unfold writeStored gated
  repeat' split
  all_goals simp

@[simp] theorem writeStored_pending (r : StoredReg) (v : Byte) (s : State) :
    (writeStored r v s).pending = s.pending := by
  unfold writeStored gated
  repeat' split
  all_goals simp

@[simp] theorem writeStored_answer (r : StoredReg) (v : Byte) (s : State) :
    (writeStored r v s).answer = s.answer := by
  unfold writeStored gated
  repeat' split
  all_goals simp

@[simp] theorem writeStored_dacDraws (r : StoredReg) (v : Byte) (s : State) :
    (writeStored r v s).dacDraws = s.dacDraws := by
  unfold writeStored gated
  repeat' split
  all_goals simp

/-! ### `putEntry`: the fields that hold no palette -/

@[simp] theorem putEntry_rf (sel : DacMode) (i : Byte) (e : Rgb) (s : State) :
    (putEntry sel i e s).rf = s.rf := by
  cases sel <;> rfl

@[simp] theorem putEntry_hdac (sel : DacMode) (i : Byte) (e : Rgb) (s : State) :
    (putEntry sel i e s).hdac = s.hdac := by
  cases sel <;> rfl

@[simp] theorem putEntry_blt (sel : DacMode) (i : Byte) (e : Rgb) (s : State) :
    (putEntry sel i e s).blt = s.blt := by
  cases sel <;> rfl

@[simp] theorem putEntry_vram (sel : DacMode) (i : Byte) (e : Rgb) (s : State) :
    (putEntry sel i e s).vram = s.vram := by
  cases sel <;> rfl

@[simp] theorem putEntry_cfg (sel : DacMode) (i : Byte) (e : Rgb) (s : State) :
    (putEntry sel i e s).cfg = s.cfg := by
  cases sel <;> rfl

@[simp] theorem putEntry_pending (sel : DacMode) (i : Byte) (e : Rgb) (s : State) :
    (putEntry sel i e s).pending = s.pending := by
  cases sel <;> rfl

@[simp] theorem putEntry_answer (sel : DacMode) (i : Byte) (e : Rgb) (s : State) :
    (putEntry sel i e s).answer = s.answer := by
  cases sel <;> rfl

@[simp] theorem putEntry_dacDraws (sel : DacMode) (i : Byte) (e : Rgb) (s : State) :
    (putEntry sel i e s).dacDraws = s.dacDraws := by
  cases sel <;> rfl

end Sys2Proof.Machine
end

