-- ==== Sys2Proof/Laws/Ops.lean ====
section
/-! SUPPORT. The laws of the shared operations: VRAM (a read after a write; every write keeps the canonical form; canonical
memories that read alike are equal), the stored-byte registers behind the lock gate. -/

namespace Sys2Proof.Machine

/-! ### Lists of cells -/

theorem lookupCell_eraseCell (a b : Nat) (l : List Host.Cell) :
    lookupCell b (eraseCell a l) = if b = a then Memory.unlisted else lookupCell b l := by
  induction l with
  | nil => simp [eraseCell, lookupCell]
  | cons c l ih =>
    obtain ⟨k, w⟩ := c
    by_cases hk : k = a <;> by_cases hb : k = b <;> simp_all [eraseCell, lookupCell]

theorem lookupCell_placeCell_self (a : Nat) (v : Byte) (l : List Host.Cell) (h : ∀ c ∈ l, c.1 ≠ a) :
    lookupCell a (placeCell a v l) = v := by
  induction l with
  | nil => simp [placeCell, lookupCell]
  | cons c l ih =>
    obtain ⟨k, w⟩ := c
    have hk : k ≠ a := h (k, w) (by simp)
    have hl : ∀ c ∈ l, c.1 ≠ a := fun c hc => h c (by simp [hc])
    simp only [placeCell]
    split <;> simp [lookupCell, hk, ih hl]

theorem lookupCell_placeCell_other (a b : Nat) (v : Byte) (l : List Host.Cell) (h : b ≠ a) :
    lookupCell b (placeCell a v l) = lookupCell b l := by
  induction l with
  | nil => simp [placeCell, lookupCell, Ne.symm h]
  | cons c l ih =>
    obtain ⟨k, w⟩ := c
    simp only [placeCell]
    split
    · simp [lookupCell, Ne.symm h]
    · simp only [lookupCell, ih]

theorem mem_eraseCell (a : Nat) (l : List Host.Cell) (c : Host.Cell) : c ∈ eraseCell a l ↔ c ∈ l ∧ c.1 ≠ a := by
  induction l with
  | nil => simp [eraseCell]
  | cons d l ih =>
    obtain ⟨k, w⟩ := d
    simp only [eraseCell]
    split
    · next hk =>
      subst hk
      rw [ih]
      constructor
      · rintro ⟨hc, hn⟩; exact ⟨List.mem_cons_of_mem _ hc, hn⟩
      · rintro ⟨hc, hn⟩
        rcases List.mem_cons.mp hc with rfl | hc
        · exact absurd rfl hn
        · exact ⟨hc, hn⟩
    · next hk =>
      rw [List.mem_cons, ih, List.mem_cons]
      constructor
      · rintro (rfl | ⟨hc, hn⟩)
        · exact ⟨.inl rfl, hk⟩
        · exact ⟨.inr hc, hn⟩
      · rintro ⟨rfl | hc, hn⟩
        · exact .inl rfl
        · exact .inr ⟨hc, hn⟩

theorem lookupCell_insertCell (a b : Nat) (v : Byte) (l : List Host.Cell) :
    lookupCell b (insertCell a v l) = if b = a then v else lookupCell b l := by
  unfold insertCell
  split
  · next hv => rw [lookupCell_eraseCell, hv]
  · split
    · next hb =>
      subst hb
      exact lookupCell_placeCell_self _ _ _ fun c hc => ((mem_eraseCell b l c).mp hc).2
    · next hb => rw [lookupCell_placeCell_other _ _ _ _ hb, lookupCell_eraseCell, if_neg hb]

theorem cellsWf_of_le {lo lo' size : Nat} {l : List Host.Cell} (h : lo' ≤ lo) (hw : cellsWf lo size l = true) :
    cellsWf lo' size l = true := by
  cases l with
  | nil => rfl
  | cons c l =>
    obtain ⟨k, w⟩ := c
    simp only [cellsWf, Bool.and_eq_true, decide_eq_true_eq] at hw ⊢
    exact ⟨⟨⟨h.trans hw.1.1.1, hw.1.1.2⟩, hw.1.2⟩, hw.2⟩

theorem cellsWf_eraseCell (a size : Nat) (l : List Host.Cell) (lo : Nat) (h : cellsWf lo size l = true) :
    cellsWf lo size (eraseCell a l) = true := by
  induction l generalizing lo with
  | nil => rfl
  | cons c l ih =>
    obtain ⟨k, w⟩ := c
    simp only [cellsWf, Bool.and_eq_true, decide_eq_true_eq] at h
    simp only [eraseCell]
    split
    · exact ih lo (cellsWf_of_le (by omega) h.2)
    · simp only [cellsWf, Bool.and_eq_true, decide_eq_true_eq]
      exact ⟨h.1, ih _ h.2⟩

theorem cellsWf_placeCell (a : Nat) (v : Byte) (size : Nat) (l : List Host.Cell) (lo : Nat) (hlo : lo ≤ a) (ha : a < size)
    (hv : v ≠ Memory.unlisted) (hn : ∀ c ∈ l, c.1 ≠ a) (h : cellsWf lo size l = true) :
    cellsWf lo size (placeCell a v l) = true := by
  induction l generalizing lo with
  | nil => simp [placeCell, cellsWf, hlo, ha, hv]
  | cons c l ih =>
    obtain ⟨k, w⟩ := c
    simp only [cellsWf, Bool.and_eq_true, decide_eq_true_eq, bne_iff_ne] at h
    have hk : k ≠ a := hn (k, w) (by simp)
    simp only [placeCell]
    split
    · next hak =>
      simp only [cellsWf, Bool.and_eq_true, decide_eq_true_eq, bne_iff_ne]
      exact ⟨⟨⟨hlo, ha⟩, hv⟩, ⟨⟨hak, h.1.1.2⟩, h.1.2⟩, h.2⟩
    · next hak =>
      simp only [cellsWf, Bool.and_eq_true, decide_eq_true_eq, bne_iff_ne]
      exact ⟨h.1, ih (k + 1) (by omega) (fun c hc => hn c (by simp [hc])) h.2⟩

theorem cellsWf_insertCell (a : Nat) (v : Byte) (size : Nat) (l : List Host.Cell) (ha : a < size)
    (h : cellsWf 0 size l = true) : cellsWf 0 size (insertCell a v l) = true := by
  unfold insertCell
  split
  · exact cellsWf_eraseCell a size l 0 h
  · next hv =>
    exact cellsWf_placeCell a v size _ 0 (Nat.zero_le a) ha hv (fun c hc => ((mem_eraseCell a l c).mp hc).2)
      (cellsWf_eraseCell a size l 0 h)

theorem lookupCell_of_lt (size : Nat) (l : List Host.Cell) (lo a : Nat) (h : cellsWf lo size l = true) (ha : a < lo) :
    lookupCell a l = Memory.unlisted := by
  induction l generalizing lo with
  | nil => rfl
  | cons c l ih =>
    obtain ⟨k, w⟩ := c
    simp only [cellsWf, Bool.and_eq_true, decide_eq_true_eq, bne_iff_ne] at h
    simp only [lookupCell]
    rw [if_neg (by omega)]
    exact ih (k + 1) h.2 (by omega)

theorem cells_eq_of_lookupCell (size : Nat) (l m : List Host.Cell) (lo : Nat) (hl : cellsWf lo size l = true)
    (hm : cellsWf lo size m = true) (h : ∀ a, lookupCell a l = lookupCell a m) : l = m := by
  induction l generalizing m lo with
  | nil =>
    cases m with
    | nil => rfl
    | cons c m =>
      obtain ⟨k, w⟩ := c
      simp only [cellsWf, Bool.and_eq_true, bne_iff_ne] at hm
      exact absurd (by simpa [lookupCell] using (h k).symm) hm.1.2
  | cons c l ih =>
    obtain ⟨k, w⟩ := c
    simp only [cellsWf, Bool.and_eq_true, decide_eq_true_eq, bne_iff_ne] at hl
    cases m with
    | nil => exact absurd (by simpa [lookupCell] using h k) hl.1.2
    | cons d m =>
      obtain ⟨k', w'⟩ := d
      simp only [cellsWf, Bool.and_eq_true, decide_eq_true_eq, bne_iff_ne] at hm
      have hk : k = k' := by
        rcases Nat.lt_trichotomy k k' with hlt | heq | hgt
        · have h1 := h k
          simp only [lookupCell, if_true, if_neg (Nat.ne_of_gt hlt)] at h1
          rw [lookupCell_of_lt size m (k' + 1) k hm.2 (by omega)] at h1
          exact absurd h1 hl.1.2
        · exact heq
        · have h1 := h k'
          simp only [lookupCell, if_true, if_neg (Nat.ne_of_gt hgt)] at h1
          rw [lookupCell_of_lt size l (k + 1) k' hl.2 (by omega)] at h1
          exact absurd h1.symm hm.1.2
      subst hk
      have hw : w = w' := by simpa [lookupCell] using h k
      subst hw
      congr 1
      refine ih m (k + 1) hl.2 hm.2 fun a => ?_
      by_cases hak : k = a
      · subst hak
        rw [lookupCell_of_lt size l (k + 1) k hl.2 (by omega), lookupCell_of_lt size m (k + 1) k hm.2 (by omega)]
      · simpa [lookupCell, hak] using h a

/-! ### The array -/

@[simp] theorem Memory.read_write (m : Memory) (a b : Nat) (v : Byte) :
    (m.write a v).read b = if b = a then v else m.read b := lookupCell_insertCell a b v m.cells

/-- A write inside the array keeps the canonical form. -/
theorem Memory.write_wf {m : Memory} {size : Nat} (a : Nat) (v : Byte) (ha : a < size) (h : m.wf size = true) :
    (m.write a v).wf size = true := cellsWf_insertCell a v size m.cells ha h

/-- Canonical arrays that read alike are equal data. -/
theorem Memory.eq_of_read {m n : Memory} {size : Nat} (hm : m.wf size = true) (hn : n.wf size = true)
    (h : ∀ a, m.read a = n.read a) : m = n := by
  cases m; cases n
  exact congrArg Memory.mk (cells_eq_of_lookupCell size _ _ 0 hm hn h)

theorem State.reset_vram_wf : State.reset.vram.wf State.reset.cfg.vramSize = true := rfl

/-! ### `memRead` and `memWrite` -/

/-- Everything a VRAM write does to VRAM reads: the byte at its index, whatever address names it, and no other. -/
@[simp] theorem memRead_memWrite (s : State) (a b : Nat) (v : Byte) :
    memRead (memWrite s a v) b = if b % s.cfg.vramSize = a % s.cfg.vramSize then v else memRead s b := by
  simp [memRead]

/-- A VRAM read depends on VRAM and its size alone. -/
theorem memRead_congr {s t : State} (hv : t.vram = s.vram) (hc : t.cfg = s.cfg) (a : Nat) : memRead t a = memRead s a := by
  unfold memRead
  rw [hv, hc]

/-- A read through an address and through its index give the same byte. -/
@[simp] theorem memRead_mod (s : State) (a : Nat) : memRead s (a % s.cfg.vramSize) = memRead s a := by
  simp [memRead]

theorem memWrite_wf {s : State} (a : Nat) (v : Byte) (hs : 0 < s.cfg.vramSize) (h : s.vram.wf s.cfg.vramSize = true) :
    (memWrite s a v).vram.wf s.cfg.vramSize = true := Memory.write_wf _ _ (Nat.mod_lt _ hs) h

/-! ### Byte registers and the lock gate -/

theorem highByte_append_lowByte (v : Word16) : highByte v ++ lowByte v = v := by
  apply BitVec.eq_of_toNat_eq
  simp only [highByte, lowByte, BitVec.toNat_append, BitVec.extractLsb'_toNat, Nat.shiftRight_zero]
  rw [← Nat.shiftLeft_add_eq_or_of_lt (Nat.mod_lt _ (by norm_num)), Nat.shiftLeft_eq, Nat.shiftRight_eq_div_pow]
  have := v.isLt
  omega

/-- The write mask of a register whose rule names none. -/
@[simp] theorem byte_and_ff (d : Byte) : d &&& 0xFF = d := BitVec.and_allOnes

theorem unlocked_iff (s : State) : unlocked s = true ↔ s.rf.lockReg = s.cfg.unlockKey := by simp [unlocked]

theorem isProtected_iff (c : Config) (r : Reg) : isProtected c r = true ↔ r ∈ c.protectedRegs := by simp [isProtected]

theorem writeEnabled_iff (s : State) (r : Reg) :
    writeEnabled s r = true ↔ (r ∈ s.cfg.protectedRegs → s.rf.lockReg = s.cfg.unlockKey) := by
  rw [writeEnabled, Bool.or_eq_true, Bool.not_eq_true', ← Bool.not_eq_true, isProtected_iff, unlocked_iff]
  exact Decidable.imp_iff_not_or.symm

theorem writeEnabled_eq_false_iff (s : State) (r : Reg) :
    writeEnabled s r = false ↔ r ∈ s.cfg.protectedRegs ∧ s.rf.lockReg ≠ s.cfg.unlockKey := by
  rw [← Bool.not_eq_true, writeEnabled_iff]
  exact Decidable.not_imp_iff_and_not

/-- Everything the gate can do. -/
theorem gated_cases (r : Reg) (s t : State) :
    ((r ∈ s.cfg.protectedRegs → s.rf.lockReg = s.cfg.unlockKey) ∧ gated r s t = t) ∨
    (r ∈ s.cfg.protectedRegs ∧ s.rf.lockReg ≠ s.cfg.unlockKey ∧ gated r s t = s) := by
  unfold gated
  cases h : writeEnabled s r
  · obtain ⟨hp, hl⟩ := (writeEnabled_eq_false_iff s r).mp h
    exact .inr ⟨hp, hl, if_neg (by simp)⟩
  · exact .inl ⟨(writeEnabled_iff s r).mp h, if_pos rfl⟩

theorem gated_open {r : Reg} {s : State} (t : State) (h : r ∈ s.cfg.protectedRegs → s.rf.lockReg = s.cfg.unlockKey) :
    gated r s t = t := if_pos ((writeEnabled_iff s r).mpr h)

theorem gated_shut {r : Reg} {s : State} (t : State) (h : r ∈ s.cfg.protectedRegs ∧ s.rf.lockReg ≠ s.cfg.unlockKey) :
    gated r s t = s := if_neg (by simp [(writeEnabled_eq_false_iff s r).mpr h])

/-- Everything a stored-byte write can do: put its masked byte, or nothing, behind a shut gate or without the register. -/
theorem writeStored_cases (r : StoredReg) (d : Byte) (s : State) :
    (registerPresent r s.cfg = true ∧ (.stored r ∈ s.cfg.protectedRegs → s.rf.lockReg = s.cfg.unlockKey) ∧
      writeStored r d s = putStored r (d &&& writeMask r s.cfg) s) ∨
    writeStored r d s = s := by
  unfold writeStored
  cases hp : registerPresent r s.cfg
  · exact .inr (if_neg (by simp))
  · rw [if_pos rfl]
    rcases gated_cases (.stored r) s (putStored r (d &&& writeMask r s.cfg) s) with ⟨ho, h⟩ | ⟨-, -, h⟩
    · exact .inl ⟨rfl, ho, h⟩
    · exact .inr h

/-- Everything a stored-byte read can do: answer the byte, or the constant without the register. -/
theorem readStored_cases (r : StoredReg) (s : State) :
    (registerPresent r s.cfg = true ∧ readStored r s = answerByte (storedByte r s) s) ∨
    (registerPresent r s.cfg = false ∧ readStored r s = answerByte s.cfg.unassignedRead s) := by
  unfold readStored
  cases h : registerPresent r s.cfg
  · exact .inr ⟨rfl, if_neg (by simp)⟩
  · exact .inl ⟨rfl, if_pos rfl⟩

end Sys2Proof.Machine
end

