-- ==== Sys2Proof/Laws/Dac.lean ====
section
/-! SUPPORT. The laws of the DAC operations: a palette entry after an entry is replaced, a component after one is set, the
phase machine. -/

namespace Sys2Proof.Machine

@[simp] theorem component_setComponent_self (c : Component) (v : Byte) (e : Rgb) : component c (setComponent c v e) = v := by
  cases c <;> rfl

theorem component_setComponent_other {c d : Component} (h : d ≠ c) (v : Byte) (e : Rgb) :
    component d (setComponent c v e) = component d e := by
  cases c <;> cases d <;> first | rfl | exact absurd rfl h

theorem paletteEntry_putEntry_normal (i j : Byte) (e : Rgb) (s : State) :
    paletteEntry .normal j (putEntry .normal i e s) = if i = j then e else paletteEntry .normal j s := by
  simp only [paletteEntry, putEntry, Vector.getElem_set, BitVec.toNat_inj]

theorem paletteEntry_putEntry_hidden (i j : Byte) (e : Rgb) (s : State) :
    paletteEntry .hidden j (putEntry .hidden i e s) = if extIndex i = extIndex j then e else paletteEntry .hidden j s := by
  simp only [paletteEntry, putEntry, Vector.getElem_set, BitVec.toNat_inj]

theorem paletteEntry_putEntry_of_ne {m n : DacMode} (h : m ≠ n) (i j : Byte) (e : Rgb) (s : State) :
    paletteEntry n j (putEntry m i e s) = paletteEntry n j s := by
  cases m <;> cases n <;> first | exact absurd rfl h | rfl

/-- Everything a mask-port access does to the phase machine. -/
theorem maskAdvance_cases (s : State) :
    (s.hdac.phase + 1 = s.cfg.hdacCycle ∧
      maskAdvance s = { s with hdac := { mode := toggleMode s.hdac.mode, phase := 0 } }) ∨
    (s.hdac.phase + 1 ≠ s.cfg.hdacCycle ∧
      maskAdvance s = { s with hdac := { mode := s.hdac.mode, phase := s.hdac.phase + 1 } }) := by
  unfold maskAdvance
  split
  · next h => exact .inl ⟨h, rfl⟩
  · next h => exact .inr ⟨h, rfl⟩

@[simp] theorem toggleMode_toggleMode (m : DacMode) : toggleMode (toggleMode m) = m := by cases m <;> rfl

theorem toggleMode_eq (m : DacMode) : toggleMode m = if m = .normal then .hidden else .normal := by cases m <;> rfl

end Sys2Proof.Machine
end

