-- ==== Sys2Proof/Laws/Engine.lean ====
section
/-! SUPPORT. The laws of the engine's operations: what each can do to VRAM, what it does to the engine's record, and that it
does nothing else. -/

namespace Sys2Proof.Machine

/-! ### Addresses -/

theorem offsetAddr_offsetAddr (a : Addr) (m n : Int) : offsetAddr (offsetAddr a m) n = offsetAddr a (m + n) := by
  unfold offsetAddr
  apply BitVec.eq_of_toNat_eq
  simp only [BitVec.toNat_ofInt]
  have h : (0 : Int) ≤ ((a.toNat : Int) + m) % (2 ^ 24 : Nat) := Int.emod_nonneg _ (by norm_num)
  rw [Int.toNat_of_nonneg h, Int.emod_add_emod, Int.add_assoc]

@[simp] theorem offsetAddr_zero (a : Addr) : offsetAddr a 0 = a := by
  unfold offsetAddr
  apply BitVec.eq_of_toNat_eq
  have := a.isLt
  simp only [BitVec.toNat_ofInt, Int.add_zero]
  omega

/-! ### The byte operation -/

/-- Everything `commit` can do: nothing, or one VRAM write at `dest_current`. -/
theorem commit_cases (f : Byte → Byte → Byte) (sb : Byte) (s : State) :
    (transparent s.blt sb = true ∧ commit f sb s = s) ∨
    (transparent s.blt sb = false ∧
      commit f sb s = memWrite s s.blt.destCurrent.toNat (f sb (memRead s s.blt.destCurrent.toNat))) := by
  unfold commit
  cases h : transparent s.blt sb
  · exact .inr ⟨rfl, if_neg (by simp)⟩
  · exact .inl ⟨rfl, if_pos rfl⟩

@[simp] theorem commit_blt (f : Byte → Byte → Byte) (sb : Byte) (s : State) : (commit f sb s).blt = s.blt := by
  rcases commit_cases f sb s with ⟨-, h⟩ | ⟨-, h⟩ <;> simp [h, memWrite]

@[simp] theorem commit_rf (f : Byte → Byte → Byte) (sb : Byte) (s : State) : (commit f sb s).rf = s.rf := by
  rcases commit_cases f sb s with ⟨-, h⟩ | ⟨-, h⟩ <;> simp [h, memWrite]

@[simp] theorem commit_cfg (f : Byte → Byte → Byte) (sb : Byte) (s : State) : (commit f sb s).cfg = s.cfg := by
  rcases commit_cases f sb s with ⟨-, h⟩ | ⟨-, h⟩ <;> simp [h, memWrite]

/-- Two changes to the engine's record and VRAM alone are one. -/
theorem engineFrame_trans {s t u : State} (h₁ : t = { s with blt := t.blt, vram := t.vram })
    (h₂ : u = { t with blt := u.blt, vram := u.vram }) : u = { s with blt := u.blt, vram := u.vram } :=
  h₂.trans (by rw [h₁])

/-- `commit` changes nothing but VRAM. -/
theorem commit_frame (f : Byte → Byte → Byte) (sb : Byte) (s : State) :
    commit f sb s = { s with vram := (commit f sb s).vram } := by
  rcases commit_cases f sb s with ⟨-, h⟩ | ⟨-, h⟩ <;> simp [h, memWrite]

theorem commit_engineFrame (f : Byte → Byte → Byte) (sb : Byte) (s : State) :
    commit f sb s = { s with blt := (commit f sb s).blt, vram := (commit f sb s).vram } := by
  rcases commit_cases f sb s with ⟨-, h⟩ | ⟨-, h⟩ <;> simp [h, memWrite]

/-- What each VRAM read gives after `commit`. -/
theorem memRead_commit (f : Byte → Byte → Byte) (sb : Byte) (s : State) (a : Nat) :
    memRead (commit f sb s) a =
      if transparent s.blt sb = false ∧ a % s.cfg.vramSize = s.blt.destCurrent.toNat % s.cfg.vramSize
      then f sb (memRead s s.blt.destCurrent.toNat) else memRead s a := by
  rcases commit_cases f sb s with ⟨ht, h⟩ | ⟨ht, h⟩ <;> rw [h] <;> simp [ht]

/-- `commit` keeps VRAM in canonical form. -/
theorem commit_wf (f : Byte → Byte → Byte) (sb : Byte) {s : State} (hs : 0 < s.cfg.vramSize)
    (h : s.vram.wf s.cfg.vramSize = true) : (commit f sb s).vram.wf s.cfg.vramSize = true := by
  rcases commit_cases f sb s with ⟨-, he⟩ | ⟨-, he⟩ <;> rw [he]
  · exact h
  · exact memWrite_wf _ _ hs h

/-! ### The advance -/

/-- Everything `advanceBlt` can do. -/
theorem advanceBlt_cases (b : Blt) :
    ((b.pixelCount + 1).toNat < b.width.toNat ∧
      advanceBlt b = { b with
        pixelCount := b.pixelCount + 1
        destCurrent := offsetAddr b.destCurrent (dirOf b.mode) }) ∨
    (b.width.toNat ≤ (b.pixelCount + 1).toNat ∧ (b.scanCount + 1).toNat < b.height.toNat ∧
      advanceBlt b = { b with
        pixelCount := 0, scanCount := b.scanCount + 1
        destCurrent :=
          offsetAddr b.dest (dirOf b.mode * (((b.scanCount + 1).toNat * b.destPitch.toNat : Nat) : Int)) }) ∨
    (b.width.toNat ≤ (b.pixelCount + 1).toNat ∧ b.height.toNat ≤ (b.scanCount + 1).toNat ∧
      advanceBlt b = { b with pixelCount := 0, scanCount := b.scanCount + 1, fsm := .idle }) := by
  unfold advanceBlt
  by_cases hw : b.width.toNat ≤ (b.pixelCount + 1).toNat
  · by_cases hh : b.height.toNat ≤ (b.scanCount + 1).toNat
    · exact .inr (.inr ⟨hw, hh, by rw [if_pos hw, if_pos hh]; rfl⟩)
    · exact .inr (.inl ⟨hw, Nat.lt_of_not_le hh, by rw [if_pos hw, if_neg hh]⟩)
  · exact .inl ⟨Nat.lt_of_not_le hw, by rw [if_neg hw]⟩

/-- The advance changes no operand register and nothing staged. -/
theorem advanceBlt_frame (b : Blt) :
    advanceBlt b = { b with
      fsm := (advanceBlt b).fsm, pixelCount := (advanceBlt b).pixelCount, scanCount := (advanceBlt b).scanCount
      destCurrent := (advanceBlt b).destCurrent } := by
  rcases advanceBlt_cases b with ⟨-, h⟩ | ⟨-, -, h⟩ | ⟨-, -, h⟩ <;> rw [h]

/-- The advance leaves `fsm` or makes it IDLE. -/
theorem advanceBlt_fsm (b : Blt) : (advanceBlt b).fsm = b.fsm ∨ (advanceBlt b).fsm = .idle := by
  rcases advanceBlt_cases b with ⟨-, h⟩ | ⟨-, -, h⟩ | ⟨-, -, h⟩ <;> rw [h] <;> simp

/-! ### Frames of the engine's procedures -/

theorem byteOperation_frame (f : Byte → Byte → Byte) (s : State) :
    byteOperation f s = { s with blt := (byteOperation f s).blt, vram := (byteOperation f s).vram } := by
  have h := commit_engineFrame f (sourceOperand s) { s with blt := { s.blt with sourceCurrent := sourceAddress s } }
  exact engineFrame_trans (t := { s with blt := { s.blt with sourceCurrent := sourceAddress s } }) rfl
    (engineFrame_trans h rfl)

/-- The engine's record after one pass of the loop. -/
theorem byteOperation_blt (f : Byte → Byte → Byte) (s : State) :
    (byteOperation f s).blt = advanceBlt { s.blt with sourceCurrent := sourceAddress s } := by
  simp [byteOperation]

@[simp] theorem byteOperation_cfg (f : Byte → Byte → Byte) (s : State) : (byteOperation f s).cfg = s.cfg := by
  rw [byteOperation_frame]

theorem byteOperation_wf (f : Byte → Byte → Byte) {s : State} (hs : 0 < s.cfg.vramSize)
    (h : s.vram.wf s.cfg.vramSize = true) : (byteOperation f s).vram.wf s.cfg.vramSize = true :=
  commit_wf f _ (s := { s with blt := { s.blt with sourceCurrent := sourceAddress s } }) hs h

/-- The loop of `RunVram`, one pass at a time. -/
theorem runVram_succ (n : Nat) {s : State} (h : s.blt.fsm = .xferVram) :
    runVram (n + 1) s = runVram n (byteOperation (liveRaster s) s) := by
  simp [runVram, h]

/-- The loop of `RunVram` is over outside XFER_VRAM. -/
theorem runVram_done (n : Nat) {s : State} (h : s.blt.fsm ≠ .xferVram) : runVram n s = s := by
  cases n with
  | zero => rfl
  | succ n =>
    unfold runVram
    split
    · next hx => exact absurd hx h
    · rfl

theorem runVram_frame (n : Nat) (s : State) :
    runVram n s = { s with blt := (runVram n s).blt, vram := (runVram n s).vram } := by
  induction n generalizing s with
  | zero => rfl
  | succ n ih =>
    by_cases h : s.blt.fsm = .xferVram
    · rw [runVram_succ n h]
      exact engineFrame_trans (byteOperation_frame _ s) (ih _)
    · rw [runVram_done _ h]

theorem runVram_wf (n : Nat) {s : State} (hs : 0 < s.cfg.vramSize) (h : s.vram.wf s.cfg.vramSize = true) :
    (runVram n s).vram.wf s.cfg.vramSize = true := by
  induction n generalizing s with
  | zero => exact h
  | succ n ih =>
    by_cases hx : s.blt.fsm = .xferVram
    · rw [runVram_succ n hx]
      have := ih (s := byteOperation (liveRaster s) s) (by simpa using hs) (by simpa using byteOperation_wf _ hs h)
      simpa using this
    · rwa [runVram_done _ hx]

/-- Everything leaving ARMED can do. -/
theorem leaveArmed_cases (s : State) :
    ((s.blt.width = 0 ∨ s.blt.height = 0) ∧ leaveArmed s = { s with blt := { s.blt with fsm := .idle } }) ∨
    (s.blt.width ≠ 0 ∧ s.blt.height ≠ 0 ∧ modeSysSrc s.blt.mode = true ∧
      leaveArmed s = { s with blt := { s.blt with fsm := .xferSys } }) ∨
    (s.blt.width ≠ 0 ∧ s.blt.height ≠ 0 ∧ modeSysSrc s.blt.mode = false ∧
      leaveArmed s = runVram (s.blt.width.toNat * s.blt.height.toNat) { s with blt := { s.blt with fsm := .xferVram } }) := by
  unfold leaveArmed
  by_cases hz : s.blt.width = 0 ∨ s.blt.height = 0
  · exact .inl ⟨hz, if_pos hz⟩
  · obtain ⟨hw, hh⟩ := not_or.mp hz
    rw [if_neg hz]
    cases hm : modeSysSrc s.blt.mode
    · exact .inr (.inr ⟨hw, hh, rfl, if_neg (by simp)⟩)
    · exact .inr (.inl ⟨hw, hh, rfl, if_pos rfl⟩)

theorem leaveArmed_frame (s : State) : leaveArmed s = { s with blt := (leaveArmed s).blt, vram := (leaveArmed s).vram } := by
  rcases leaveArmed_cases s with ⟨-, h⟩ | ⟨-, -, -, h⟩ | ⟨-, -, -, h⟩ <;> rw [h]
  exact engineFrame_trans (t := { s with blt := { s.blt with fsm := .xferVram } }) rfl (runVram_frame _ _)

theorem bltStart_frame (s : State) : bltStart s = { s with blt := (bltStart s).blt, vram := (bltStart s).vram } := by
  exact engineFrame_trans (t := { s with blt := armBlt s.blt }) rfl (leaveArmed_frame _)

theorem expandFeed_frame (b : Byte) (y0 : Word16) (fuel n : Nat) (s : State) :
    expandFeed b y0 fuel n s =
      { s with blt := (expandFeed b y0 fuel n s).blt, vram := (expandFeed b y0 fuel n s).vram } := by
  induction fuel generalizing n s with
  | zero => rfl
  | succ fuel ih =>
    unfold expandFeed
    dsimp only
    split
    · exact engineFrame_trans (engineFrame_trans (commit_engineFrame _ _ s) rfl) (ih _ (advance _))
    · rfl

theorem sysFeed_frame (b : Byte) (s : State) : sysFeed b s = { s with blt := (sysFeed b s).blt, vram := (sysFeed b s).vram } := by
  have h : ∀ t : State, t = { s with blt := t.blt, vram := t.vram } →
      { t with blt := { t.blt with systemCount := 0 } } =
        { s with blt := { t.blt with systemCount := 0 }, vram := t.vram } := fun t ht => by rw [ht]
  unfold sysFeed
  dsimp only
  split
  · exact h _ (engineFrame_trans rfl (expandFeed_frame ..))
  · exact h _ (engineFrame_trans (engineFrame_trans rfl (commit_engineFrame ..)) rfl)

end Sys2Proof.Machine
end

