-- ==== Sys2Proof/Laws/Operands.lean ====
section
/-! SUPPORT. The engine's operand functions against the spec's formulas: the source operand and its address, the colour of a
source bit, the transparency test, the bytes per pixel. -/

namespace Sys2Proof.Machine

theorem transparent_iff (b : Blt) (sb : Byte) : transparent b sb = true ↔ SkippedByKey b sb := by
  simp [transparent, modeTransp]

theorem transparent_eq_false_iff (b : Blt) (sb : Byte) : transparent b sb = false ↔ ¬ SkippedByKey b sb := by
  rw [← transparent_iff, Bool.not_eq_true]

theorem bppOf_eq (mode : Byte) : bppOf mode = bytesPerPixel mode := rfl

theorem selectedColour_colourByte (rf : RegFile) (bit : Bool) (k : Nat) : SelectedColour rf bit k (colourByte rf bit k) := by
  cases bit <;> simp +contextual [SelectedColour, colourByte]

/-- A selected colour is the model's, for the two byte numbers there are. -/
theorem SelectedColour.eq {rf : RegFile} {bit : Bool} {k : Nat} {sb : Byte} (h : SelectedColour rf bit k sb) (hk : k < 2) :
    sb = colourByte rf bit k := by
  obtain ⟨h1, h2, h3, h4⟩ := h
  have hk' : k = 0 ∨ k = 1 := by omega
  cases bit <;> rcases hk' with rfl | rfl <;> simp_all [colourByte]

theorem sourceForm_eq (mode : Byte) : sourceForm mode =
    match mode.getLsbD 7, mode.getLsbD 6, mode.getLsbD 4 with
    | false, false, _ => .plain
    | true, false, false => .expand8
    | true, false, true => .expand16
    | false, true, _ => .colourPattern
    | true, true, _ => .monoPattern := by
  unfold sourceForm modeExpand modePattern modeExp16
  cases mode.getLsbD 7 <;> cases mode.getLsbD 6 <;> cases mode.getLsbD 4 <;> rfl

/-- What the engine reads is what the spec's formulas give. -/
theorem readsOperand_sourceOperand (s : State) : ReadsOperand s (sourceAddress s) (sourceOperand s) := by
  have hform := sourceForm_eq s.blt.mode
  unfold ReadsOperand
  cases h7 : s.blt.mode.getLsbD 7 <;> cases h6 : s.blt.mode.getLsbD 6 <;> cases h4 : s.blt.mode.getLsbD 4 <;>
    simp only [h7, h6, h4] at hform ⊢ <;>
    refine ⟨?_, ?_⟩ <;>
    simp only [sourceOperand, operandByte, operandAddr, sourceAddress, hform, srcAddr, offsetAddr, dirOf, modeReverse, bppOf,
      modeExp16, pixelBit, h4, if_true, if_false, Bool.false_eq_true] <;>
    first | exact selectedColour_colourByte .. | (push_cast; norm_num [Int.add_assoc])

theorem selectedColour_unique {rf : RegFile} {bit : Bool} {k : Nat} {x y : Byte} (hx : SelectedColour rf bit k x)
    (hy : SelectedColour rf bit k y) (hk : k < 2) : x = y := (hx.eq hk).trans (hy.eq hk).symm

/-- The spec's formulas determine the operand and its address. -/
theorem ReadsOperand.eq {s : State} {a : Addr} {sb : Byte} (h : ReadsOperand s a sb) :
    a = sourceAddress s ∧ sb = sourceOperand s := by
  have h' := readsOperand_sourceOperand s
  generalize sourceAddress s = a' at h'
  generalize sourceOperand s = sb' at h'
  unfold ReadsOperand at h h'
  dsimp only at h h'
  split at h <;> simp only [*] at h' <;> obtain ⟨rfl, hs⟩ := h <;> obtain ⟨rfl, hs'⟩ := h' <;> refine ⟨rfl, ?_⟩
  · exact hs.trans hs'.symm
  · exact selectedColour_unique hs hs' (by omega)
  · exact selectedColour_unique hs hs' (by omega)
  · exact hs.trans hs'.symm
  · exact hs.trans hs'.symm
  · exact selectedColour_unique hs hs' (by omega)
  · exact selectedColour_unique hs hs' (by omega)

end Sys2Proof.Machine
end

