-- ==== Sys2Proof/Laws/PerInstr.lean ====
section
/-! SUPPORT. The statements made for every instruction. `RowBits`: the word of a well-formed instruction has the fixed bits
that its row of spec/opcode_table.json gives. -/

namespace Sys2Proof.Laws.RowBits

/-- The bits of an instruction as spec/opcode_table.json numbers them. -/
def codeBits : Code → BitVec 40
  | .txn word => word
  | .rop code => code.setWidth 40

/-- The bits the row fixes. -/
def rowMask : Instr → BitVec 40
  | .wSeqLock _ => 0xFFFFFFFF00
  | .rSeqLock _ => 0xFFFFFFFF00
  | .wSeqExtMode _ => 0xFFFFFFFF00
  | .rSeqExtMode _ => 0xFFFFFFFF00
  | .wSeqScratch1 _ => 0xFFFFFFFF00
  | .rSeqScratch1 _ => 0xFFFFFFFF00
  | .wSeqScratch2 _ => 0xFFFFFFFF00
  | .rSeqScratch2 _ => 0xFFFFFFFF00
  | .wSeqScratch3 _ => 0xFFFFFFFF00
  | .rSeqScratch3 _ => 0xFFFFFFFF00
  | .wSeqVclkNum0 _ => 0xFFFFFFFF00
  | .rSeqVclkNum0 _ => 0xFFFFFFFF00
  | .wSeqVclkNum1 _ => 0xFFFFFFFF00
  | .rSeqVclkNum1 _ => 0xFFFFFFFF00
  | .wSeqVclkNum2 _ => 0xFFFFFFFF00
  | .rSeqVclkNum2 _ => 0xFFFFFFFF00
  | .wSeqVclkNum3 _ => 0xFFFFFFFF00
  | .rSeqVclkNum3 _ => 0xFFFFFFFF00
  | .wSeqVclkDenom0 _ => 0xFFFFFFFF00
  | .rSeqVclkDenom0 _ => 0xFFFFFFFF00
  | .wSeqVclkDenom1 _ => 0xFFFFFFFF00
  | .rSeqVclkDenom1 _ => 0xFFFFFFFF00
  | .wSeqVclkDenom2 _ => 0xFFFFFFFF00
  | .rSeqVclkDenom2 _ => 0xFFFFFFFF00
  | .wSeqVclkDenom3 _ => 0xFFFFFFFF00
  | .rSeqVclkDenom3 _ => 0xFFFFFFFF00
  | .wSeqCursorX _ _ => 0xFFFFFF1F00
  | .rSeqCursorX _ _ => 0xFFFFFF1F00
  | .wSeqCursorY _ _ => 0xFFFFFF1F00
  | .rSeqCursorY _ _ => 0xFFFFFF1F00
  | .wSeqCursorAttr _ => 0xFFFFFFFF00
  | .rSeqCursorAttr _ => 0xFFFFFFFF00
  | .wSeqCursorAddr _ => 0xFFFFFFFF00
  | .rSeqCursorAddr _ => 0xFFFFFFFF00
  | .wGcBg0 _ => 0xFFFFFFFF00
  | .rGcBg0 _ => 0xFFFFFFFF00
  | .wGcFg0 _ => 0xFFFFFFFF00
  | .rGcFg0 _ => 0xFFFFFFFF00
  | .wGcModeExt _ => 0xFFFFFFFF00
  | .rGcModeExt _ => 0xFFFFFFFF00
  | .wGcBg1 _ => 0xFFFFFFFF00
  | .rGcBg1 _ => 0xFFFFFFFF00
  | .wGcFg1 _ => 0xFFFFFFFF00
  | .rGcFg1 _ => 0xFFFFFFFF00
  | .wCrtcExt19 _ => 0xFFFFFFFF00
  | .rCrtcExt19 _ => 0xFFFFFFFF00
  | .wCrtcExt1A _ => 0xFFFFFFFF00
  | .rCrtcExt1A _ => 0xFFFFFFFF00
  | .wCrtcExt1B _ => 0xFFFFFFFF00
  | .rCrtcExt1B _ => 0xFFFFFFFF00
  | .wCrtcId _ => 0xFFFFFFFF00
  | .rCrtcId _ => 0xFFFFFFFF00
  | .wDacMask _ => 0xFFFFFFFF00
  | .rDacMask _ => 0xFFFFFFFF00
  | .wDacIndexR _ => 0xFFFFFFFF00
  | .rDacIndexR _ => 0xFFFFFFFF00
  | .wDacIndexW _ => 0xFFFFFFFF00
  | .rDacIndexW _ => 0xFFFFFFFF00
  | .wDacData _ => 0xFFFFFFFF00
  | .rDacData _ => 0xFFFFFFFF00
  | .wDacOverlay _ => 0xFFFFFFFF00
  | .rDacOverlay _ => 0xFFFFFFFF00
  | .wBltWidthLo _ => 0xFFFFFFFF00
  | .rBltWidthLo _ => 0xFFFFFFFF00
  | .wBltWidthHi _ => 0xFFFFFFFF00
  | .rBltWidthHi _ => 0xFFFFFFFF00
  | .wBltHeightLo _ => 0xFFFFFFFF00
  | .rBltHeightLo _ => 0xFFFFFFFF00
  | .wBltHeightHi _ => 0xFFFFFFFF00
  | .rBltHeightHi _ => 0xFFFFFFFF00
  | .wBltDpitchLo _ => 0xFFFFFFFF00
  | .rBltDpitchLo _ => 0xFFFFFFFF00
  | .wBltDpitchHi _ => 0xFFFFFFFF00
  | .rBltDpitchHi _ => 0xFFFFFFFF00
  | .wBltSpitchLo _ => 0xFFFFFFFF00
  | .rBltSpitchLo _ => 0xFFFFFFFF00
  | .wBltSpitchHi _ => 0xFFFFFFFF00
  | .rBltSpitchHi _ => 0xFFFFFFFF00
  | .wBltDest0 _ => 0xFFFFFFFF00
  | .rBltDest0 _ => 0xFFFFFFFF00
  | .wBltDest1 _ => 0xFFFFFFFF00
  | .rBltDest1 _ => 0xFFFFFFFF00
  | .wBltDest2 _ => 0xFFFFFFFF00
  | .rBltDest2 _ => 0xFFFFFFFF00
  | .wBltSrc0 _ => 0xFFFFFFFF00
  | .rBltSrc0 _ => 0xFFFFFFFF00
  | .wBltSrc1 _ => 0xFFFFFFFF00
  | .rBltSrc1 _ => 0xFFFFFFFF00
  | .wBltSrc2 _ => 0xFFFFFFFF00
  | .rBltSrc2 _ => 0xFFFFFFFF00
  | .wBltMode _ => 0xFFFFFFFF00
  | .rBltMode _ => 0xFFFFFFFF00
  | .wBltStatus _ => 0xFFFFFFFF00
  | .rBltStatus _ => 0xFFFFFFFF00
  | .wBltRop _ => 0xFFFFFFFF00
  | .rBltRop _ => 0xFFFFFFFF00
  | .wBltTcolLo _ => 0xFFFFFFFF00
  | .rBltTcolLo _ => 0xFFFFFFFF00
  | .wBltTcolHi _ => 0xFFFFFFFF00
  | .rBltTcolHi _ => 0xFFFFFFFF00
  | .wBltTmaskLo _ => 0xFFFFFFFF00
  | .rBltTmaskLo _ => 0xFFFFFFFF00
  | .wBltTmaskHi _ => 0xFFFFFFFF00
  | .rBltTmaskHi _ => 0xFFFFFFFF00
  | .wBltData _ => 0xFFFFFFFF00
  | .rBltData _ => 0xFFFFFFFF00
  | .wBankRd _ => 0xFFFFFFFF00
  | .rBankRd _ => 0xFFFFFFFF00
  | .wBankWr _ => 0xFFFFFFFF00
  | .rBankWr _ => 0xFFFFFFFF00
  | .wMem _ _ => 0xFF00000000
  | .rMem _ _ => 0xFF00000000
  | .wLfb _ _ => 0xFF00000000
  | .rLfb _ _ => 0xFF00000000
  | .wSeqUnassigned _ _ => 0xFF00000000
  | .rSeqUnassigned _ _ => 0xFF00000000
  | .wGcUnassigned _ _ => 0xFF00000000
  | .rGcUnassigned _ _ => 0xFF00000000
  | .wCrtcUnassigned _ _ => 0xFF00000000
  | .rCrtcUnassigned _ _ => 0xFF00000000
  | .wDacUnassigned _ _ => 0xFF00000000
  | .rDacUnassigned _ _ => 0xFF00000000
  | .wBltUnassigned _ _ => 0xFF00000000
  | .rBltUnassigned _ _ => 0xFF00000000
  | .wBankUnassigned _ _ => 0xFF00000000
  | .rBankUnassigned _ _ => 0xFF00000000
  | .invalidSpace _ => 0x8000000000
  | .invalidBit33 _ => 0x0200000000
  | .invalidBit34 _ => 0x0400000000
  | .invalidBit35 _ => 0x0800000000
  | .ropZero => 0xFF
  | .ropAnd => 0xFF
  | .ropNop => 0xFF
  | .ropSrcAndNotDst => 0xFF
  | .ropNotDst => 0xFF
  | .ropCopy => 0xFF
  | .ropOne => 0xFF
  | .ropNotSrcAndDst => 0xFF
  | .ropXor => 0xFF
  | .ropOr => 0xFF
  | .ropNor => 0xFF
  | .ropXnor => 0xFF
  | .ropSrcOrNotDst => 0xFF
  | .ropNotSrc => 0xFF
  | .ropNotSrcOrDst => 0xFF
  | .ropNand => 0xFF
  | .ropDefault _ => 0x00

/-- The value the row fixes them at. -/
def rowMatch : Instr → BitVec 40
  | .wSeqLock _ => 0x2100000600
  | .rSeqLock _ => 0x2000000600
  | .wSeqExtMode _ => 0x2100000700
  | .rSeqExtMode _ => 0x2000000700
  | .wSeqScratch1 _ => 0x2100000900
  | .rSeqScratch1 _ => 0x2000000900
  | .wSeqScratch2 _ => 0x2100000A00
  | .rSeqScratch2 _ => 0x2000000A00
  | .wSeqScratch3 _ => 0x2100001400
  | .rSeqScratch3 _ => 0x2000001400
  | .wSeqVclkNum0 _ => 0x2100000B00
  | .rSeqVclkNum0 _ => 0x2000000B00
  | .wSeqVclkNum1 _ => 0x2100000C00
  | .rSeqVclkNum1 _ => 0x2000000C00
  | .wSeqVclkNum2 _ => 0x2100000D00
  | .rSeqVclkNum2 _ => 0x2000000D00
  | .wSeqVclkNum3 _ => 0x2100000E00
  | .rSeqVclkNum3 _ => 0x2000000E00
  | .wSeqVclkDenom0 _ => 0x2100001B00
  | .rSeqVclkDenom0 _ => 0x2000001B00
  | .wSeqVclkDenom1 _ => 0x2100001C00
  | .rSeqVclkDenom1 _ => 0x2000001C00
  | .wSeqVclkDenom2 _ => 0x2100001D00
  | .rSeqVclkDenom2 _ => 0x2000001D00
  | .wSeqVclkDenom3 _ => 0x2100001E00
  | .rSeqVclkDenom3 _ => 0x2000001E00
  | .wSeqCursorX _ _ => 0x2100001000
  | .rSeqCursorX _ _ => 0x2000001000
  | .wSeqCursorY _ _ => 0x2100001100
  | .rSeqCursorY _ _ => 0x2000001100
  | .wSeqCursorAttr _ => 0x2100001200
  | .rSeqCursorAttr _ => 0x2000001200
  | .wSeqCursorAddr _ => 0x2100001300
  | .rSeqCursorAddr _ => 0x2000001300
  | .wGcBg0 _ => 0x3100000000
  | .rGcBg0 _ => 0x3000000000
  | .wGcFg0 _ => 0x3100000100
  | .rGcFg0 _ => 0x3000000100
  | .wGcModeExt _ => 0x3100000B00
  | .rGcModeExt _ => 0x3000000B00
  | .wGcBg1 _ => 0x3100001000
  | .rGcBg1 _ => 0x3000001000
  | .wGcFg1 _ => 0x3100001100
  | .rGcFg1 _ => 0x3000001100
  | .wCrtcExt19 _ => 0x4100001900
  | .rCrtcExt19 _ => 0x4000001900
  | .wCrtcExt1A _ => 0x4100001A00
  | .rCrtcExt1A _ => 0x4000001A00
  | .wCrtcExt1B _ => 0x4100001B00
  | .rCrtcExt1B _ => 0x4000001B00
  | .wCrtcId _ => 0x4100002700
  | .rCrtcId _ => 0x4000002700
  | .wDacMask _ => 0x5100000000
  | .rDacMask _ => 0x5000000000
  | .wDacIndexR _ => 0x5100000100
  | .rDacIndexR _ => 0x5000000100
  | .wDacIndexW _ => 0x5100000200
  | .rDacIndexW _ => 0x5000000200
  | .wDacData _ => 0x5100000300
  | .rDacData _ => 0x5000000300
  | .wDacOverlay _ => 0x5100000400
  | .rDacOverlay _ => 0x5000000400
  | .wBltWidthLo _ => 0x6100002000
  | .rBltWidthLo _ => 0x6000002000
  | .wBltWidthHi _ => 0x6100002100
  | .rBltWidthHi _ => 0x6000002100
  | .wBltHeightLo _ => 0x6100002200
  | .rBltHeightLo _ => 0x6000002200
  | .wBltHeightHi _ => 0x6100002300
  | .rBltHeightHi _ => 0x6000002300
  | .wBltDpitchLo _ => 0x6100002400
  | .rBltDpitchLo _ => 0x6000002400
  | .wBltDpitchHi _ => 0x6100002500
  | .rBltDpitchHi _ => 0x6000002500
  | .wBltSpitchLo _ => 0x6100002600
  | .rBltSpitchLo _ => 0x6000002600
  | .wBltSpitchHi _ => 0x6100002700
  | .rBltSpitchHi _ => 0x6000002700
  | .wBltDest0 _ => 0x6100002800
  | .rBltDest0 _ => 0x6000002800
  | .wBltDest1 _ => 0x6100002900
  | .rBltDest1 _ => 0x6000002900
  | .wBltDest2 _ => 0x6100002A00
  | .rBltDest2 _ => 0x6000002A00
  | .wBltSrc0 _ => 0x6100002C00
  | .rBltSrc0 _ => 0x6000002C00
  | .wBltSrc1 _ => 0x6100002D00
  | .rBltSrc1 _ => 0x6000002D00
  | .wBltSrc2 _ => 0x6100002E00
  | .rBltSrc2 _ => 0x6000002E00
  | .wBltMode _ => 0x6100003000
  | .rBltMode _ => 0x6000003000
  | .wBltStatus _ => 0x6100003100
  | .rBltStatus _ => 0x6000003100
  | .wBltRop _ => 0x6100003200
  | .rBltRop _ => 0x6000003200
  | .wBltTcolLo _ => 0x6100003400
  | .rBltTcolLo _ => 0x6000003400
  | .wBltTcolHi _ => 0x6100003500
  | .rBltTcolHi _ => 0x6000003500
  | .wBltTmaskLo _ => 0x6100003800
  | .rBltTmaskLo _ => 0x6000003800
  | .wBltTmaskHi _ => 0x6100003900
  | .rBltTmaskHi _ => 0x6000003900
  | .wBltData _ => 0x6100003F00
  | .rBltData _ => 0x6000003F00
  | .wBankRd _ => 0x7100000000
  | .rBankRd _ => 0x7000000000
  | .wBankWr _ => 0x7100000100
  | .rBankWr _ => 0x7000000100
  | .wMem _ _ => 0x0100000000
  | .rMem _ _ => 0x0000000000
  | .wLfb _ _ => 0x1100000000
  | .rLfb _ _ => 0x1000000000
  | .wSeqUnassigned _ _ => 0x2100000000
  | .rSeqUnassigned _ _ => 0x2000000000
  | .wGcUnassigned _ _ => 0x3100000000
  | .rGcUnassigned _ _ => 0x3000000000
  | .wCrtcUnassigned _ _ => 0x4100000000
  | .rCrtcUnassigned _ _ => 0x4000000000
  | .wDacUnassigned _ _ => 0x5100000000
  | .rDacUnassigned _ _ => 0x5000000000
  | .wBltUnassigned _ _ => 0x6100000000
  | .rBltUnassigned _ _ => 0x6000000000
  | .wBankUnassigned _ _ => 0x7100000000
  | .rBankUnassigned _ _ => 0x7000000000
  | .invalidSpace _ => 0x8000000000
  | .invalidBit33 _ => 0x0200000000
  | .invalidBit34 _ => 0x0400000000
  | .invalidBit35 _ => 0x0800000000
  | .ropZero => 0x00
  | .ropAnd => 0x05
  | .ropNop => 0x06
  | .ropSrcAndNotDst => 0x09
  | .ropNotDst => 0x0B
  | .ropCopy => 0x0D
  | .ropOne => 0x0E
  | .ropNotSrcAndDst => 0x50
  | .ropXor => 0x59
  | .ropOr => 0x6D
  | .ropNor => 0x90
  | .ropXnor => 0x95
  | .ropSrcOrNotDst => 0xAD
  | .ropNotSrc => 0xD0
  | .ropNotSrcOrDst => 0xD6
  | .ropNand => 0xDA
  | .ropDefault _ => 0x00

/-- The encoded word of a well-formed instruction matches its row. -/
def Statement (i : Instr) : Prop := i.wf = true → codeBits (encode i) &&& rowMask i = rowMatch i

theorem masked_fields (x₁ m₁ : BitVec 4) (x₂ m₂ : BitVec 3) (x₃ m₃ : BitVec 1) (x₄ m₄ : BitVec 24) (x₅ m₅ : BitVec 8) :
    (x₁ ++ x₂ ++ x₃ ++ x₄ ++ x₅) &&& (m₁ ++ m₂ ++ m₃ ++ m₄ ++ m₅) =
      (x₁ &&& m₁) ++ (x₂ &&& m₂) ++ (x₃ &&& m₃) ++ (x₄ &&& m₄) ++ (x₅ &&& m₅) := by
  simp only [BitVec.and_append]

theorem txnWord_index_bits (sp : BitVec 4) (rw : Bool) (a : Addr) (d : Byte) :
    txnWord sp rw a d &&& 0xFFFFFFFF00 = txnWord sp rw a 0 := by
  have h := masked_fields sp (BitVec.allOnes 4) 0#3 (BitVec.allOnes 3) (BitVec.ofBool rw) (BitVec.allOnes 1)
    a (BitVec.allOnes 24) d 0#8
  simp only [BitVec.and_allOnes, BitVec.and_zero] at h
  exact h

theorem txnWord_space_bits (sp : BitVec 4) (rw : Bool) (a : Addr) (d : Byte) :
    txnWord sp rw a d &&& 0xFF00000000 = txnWord sp rw 0 0 := by
  have h := masked_fields sp (BitVec.allOnes 4) 0#3 (BitVec.allOnes 3) (BitVec.ofBool rw) (BitVec.allOnes 1)
    a 0#24 d 0#8
  simp only [BitVec.and_allOnes, BitVec.and_zero] at h
  exact h

theorem cursor_index_bits (low : BitVec 3) (i : BitVec 5) :
    indexAddr (low ++ i) &&& 0xFFFF1F = indexAddr (0#3 ++ i) := by
  have h : (0#16 ++ (low ++ i)) &&& (BitVec.allOnes 16 ++ (0#3 ++ BitVec.allOnes 5)) = 0#16 ++ (0#3 ++ i) := by
    simp only [BitVec.and_append, BitVec.and_allOnes, BitVec.and_zero]
  exact h

theorem txnWord_cursor_bits (sp : BitVec 4) (rw : Bool) (low : BitVec 3) (i : BitVec 5) (d : Byte) :
    txnWord sp rw (indexAddr (low ++ i)) d &&& 0xFFFFFF1F00 = txnWord sp rw (indexAddr (0#3 ++ i)) 0 := by
  have h := masked_fields sp (BitVec.allOnes 4) 0#3 (BitVec.allOnes 3) (BitVec.ofBool rw) (BitVec.allOnes 1)
    (indexAddr (low ++ i)) 0xFFFF1F d 0#8
  simp only [BitVec.and_allOnes, BitVec.and_zero, cursor_index_bits] at h
  exact h

theorem single_bit (w m : BitVec 40) (n : Nat) (hm : m = BitVec.twoPow 40 n) (h : w.getLsbD n = true) : w &&& m = m := by
  rw [hm, BitVec.and_twoPow, h, if_pos rfl]

theorem wSeqLock (data : Byte) : Statement (.wSeqLock data) :=
  fun _ => (txnWord_index_bits ..).trans rfl

theorem rSeqLock (data : Byte) : Statement (.rSeqLock data) :=
  fun _ => (txnWord_index_bits ..).trans rfl

theorem wSeqExtMode (data : Byte) : Statement (.wSeqExtMode data) :=
  fun _ => (txnWord_index_bits ..).trans rfl

theorem rSeqExtMode (data : Byte) : Statement (.rSeqExtMode data) :=
  fun _ => (txnWord_index_bits ..).trans rfl

theorem wSeqScratch1 (data : Byte) : Statement (.wSeqScratch1 data) :=
  fun _ => (txnWord_index_bits ..).trans rfl

theorem rSeqScratch1 (data : Byte) : Statement (.rSeqScratch1 data) :=
  fun _ => (txnWord_index_bits ..).trans rfl

theorem wSeqScratch2 (data : Byte) : Statement (.wSeqScratch2 data) :=
  fun _ => (txnWord_index_bits ..).trans rfl

theorem rSeqScratch2 (data : Byte) : Statement (.rSeqScratch2 data) :=
  fun _ => (txnWord_index_bits ..).trans rfl

theorem wSeqScratch3 (data : Byte) : Statement (.wSeqScratch3 data) :=
  fun _ => (txnWord_index_bits ..).trans rfl

theorem rSeqScratch3 (data : Byte) : Statement (.rSeqScratch3 data) :=
  fun _ => (txnWord_index_bits ..).trans rfl

theorem wSeqVclkNum0 (data : Byte) : Statement (.wSeqVclkNum0 data) :=
  fun _ => (txnWord_index_bits ..).trans rfl

theorem rSeqVclkNum0 (data : Byte) : Statement (.rSeqVclkNum0 data) :=
  fun _ => (txnWord_index_bits ..).trans rfl

theorem wSeqVclkNum1 (data : Byte) : Statement (.wSeqVclkNum1 data) :=
  fun _ => (txnWord_index_bits ..).trans rfl

theorem rSeqVclkNum1 (data : Byte) : Statement (.rSeqVclkNum1 data) :=
  fun _ => (txnWord_index_bits ..).trans rfl

theorem wSeqVclkNum2 (data : Byte) : Statement (.wSeqVclkNum2 data) :=
  fun _ => (txnWord_index_bits ..).trans rfl

theorem rSeqVclkNum2 (data : Byte) : Statement (.rSeqVclkNum2 data) :=
  fun _ => (txnWord_index_bits ..).trans rfl

theorem wSeqVclkNum3 (data : Byte) : Statement (.wSeqVclkNum3 data) :=
  fun _ => (txnWord_index_bits ..).trans rfl

theorem rSeqVclkNum3 (data : Byte) : Statement (.rSeqVclkNum3 data) :=
  fun _ => (txnWord_index_bits ..).trans rfl

theorem wSeqVclkDenom0 (data : Byte) : Statement (.wSeqVclkDenom0 data) :=
  fun _ => (txnWord_index_bits ..).trans rfl

theorem rSeqVclkDenom0 (data : Byte) : Statement (.rSeqVclkDenom0 data) :=
  fun _ => (txnWord_index_bits ..).trans rfl

theorem wSeqVclkDenom1 (data : Byte) : Statement (.wSeqVclkDenom1 data) :=
  fun _ => (txnWord_index_bits ..).trans rfl

theorem rSeqVclkDenom1 (data : Byte) : Statement (.rSeqVclkDenom1 data) :=
  fun _ => (txnWord_index_bits ..).trans rfl

theorem wSeqVclkDenom2 (data : Byte) : Statement (.wSeqVclkDenom2 data) :=
  fun _ => (txnWord_index_bits ..).trans rfl

theorem rSeqVclkDenom2 (data : Byte) : Statement (.rSeqVclkDenom2 data) :=
  fun _ => (txnWord_index_bits ..).trans rfl

theorem wSeqVclkDenom3 (data : Byte) : Statement (.wSeqVclkDenom3 data) :=
  fun _ => (txnWord_index_bits ..).trans rfl

theorem rSeqVclkDenom3 (data : Byte) : Statement (.rSeqVclkDenom3 data) :=
  fun _ => (txnWord_index_bits ..).trans rfl

theorem wSeqCursorX (low : BitVec 3) (data : Byte) : Statement (.wSeqCursorX low data) :=
  fun _ => (txnWord_cursor_bits ..).trans rfl

theorem rSeqCursorX (low : BitVec 3) (data : Byte) : Statement (.rSeqCursorX low data) :=
  fun _ => (txnWord_cursor_bits ..).trans rfl

theorem wSeqCursorY (low : BitVec 3) (data : Byte) : Statement (.wSeqCursorY low data) :=
  fun _ => (txnWord_cursor_bits ..).trans rfl

theorem rSeqCursorY (low : BitVec 3) (data : Byte) : Statement (.rSeqCursorY low data) :=
  fun _ => (txnWord_cursor_bits ..).trans rfl

theorem wSeqCursorAttr (data : Byte) : Statement (.wSeqCursorAttr data) :=
  fun _ => (txnWord_index_bits ..).trans rfl

theorem rSeqCursorAttr (data : Byte) : Statement (.rSeqCursorAttr data) :=
  fun _ => (txnWord_index_bits ..).trans rfl

theorem wSeqCursorAddr (data : Byte) : Statement (.wSeqCursorAddr data) :=
  fun _ => (txnWord_index_bits ..).trans rfl

theorem rSeqCursorAddr (data : Byte) : Statement (.rSeqCursorAddr data) :=
  fun _ => (txnWord_index_bits ..).trans rfl

theorem wGcBg0 (data : Byte) : Statement (.wGcBg0 data) :=
  fun _ => (txnWord_index_bits ..).trans rfl

theorem rGcBg0 (data : Byte) : Statement (.rGcBg0 data) :=
  fun _ => (txnWord_index_bits ..).trans rfl

theorem wGcFg0 (data : Byte) : Statement (.wGcFg0 data) :=
  fun _ => (txnWord_index_bits ..).trans rfl

theorem rGcFg0 (data : Byte) : Statement (.rGcFg0 data) :=
  fun _ => (txnWord_index_bits ..).trans rfl

theorem wGcModeExt (data : Byte) : Statement (.wGcModeExt data) :=
  fun _ => (txnWord_index_bits ..).trans rfl

theorem rGcModeExt (data : Byte) : Statement (.rGcModeExt data) :=
  fun _ => (txnWord_index_bits ..).trans rfl

theorem wGcBg1 (data : Byte) : Statement (.wGcBg1 data) :=
  fun _ => (txnWord_index_bits ..).trans rfl

theorem rGcBg1 (data : Byte) : Statement (.rGcBg1 data) :=
  fun _ => (txnWord_index_bits ..).trans rfl

theorem wGcFg1 (data : Byte) : Statement (.wGcFg1 data) :=
  fun _ => (txnWord_index_bits ..).trans rfl

theorem rGcFg1 (data : Byte) : Statement (.rGcFg1 data) :=
  fun _ => (txnWord_index_bits ..).trans rfl

theorem wCrtcExt19 (data : Byte) : Statement (.wCrtcExt19 data) :=
  fun _ => (txnWord_index_bits ..).trans rfl

theorem rCrtcExt19 (data : Byte) : Statement (.rCrtcExt19 data) :=
  fun _ => (txnWord_index_bits ..).trans rfl

theorem wCrtcExt1A (data : Byte) : Statement (.wCrtcExt1A data) :=
  fun _ => (txnWord_index_bits ..).trans rfl

theorem rCrtcExt1A (data : Byte) : Statement (.rCrtcExt1A data) :=
  fun _ => (txnWord_index_bits ..).trans rfl

theorem wCrtcExt1B (data : Byte) : Statement (.wCrtcExt1B data) :=
  fun _ => (txnWord_index_bits ..).trans rfl

theorem rCrtcExt1B (data : Byte) : Statement (.rCrtcExt1B data) :=
  fun _ => (txnWord_index_bits ..).trans rfl

theorem wCrtcId (data : Byte) : Statement (.wCrtcId data) :=
  fun _ => (txnWord_index_bits ..).trans rfl

theorem rCrtcId (data : Byte) : Statement (.rCrtcId data) :=
  fun _ => (txnWord_index_bits ..).trans rfl

theorem wDacMask (data : Byte) : Statement (.wDacMask data) :=
  fun _ => (txnWord_index_bits ..).trans rfl

theorem rDacMask (data : Byte) : Statement (.rDacMask data) :=
  fun _ => (txnWord_index_bits ..).trans rfl

theorem wDacIndexR (data : Byte) : Statement (.wDacIndexR data) :=
  fun _ => (txnWord_index_bits ..).trans rfl

theorem rDacIndexR (data : Byte) : Statement (.rDacIndexR data) :=
  fun _ => (txnWord_index_bits ..).trans rfl

theorem wDacIndexW (data : Byte) : Statement (.wDacIndexW data) :=
  fun _ => (txnWord_index_bits ..).trans rfl

theorem rDacIndexW (data : Byte) : Statement (.rDacIndexW data) :=
  fun _ => (txnWord_index_bits ..).trans rfl

theorem wDacData (data : Byte) : Statement (.wDacData data) :=
  fun _ => (txnWord_index_bits ..).trans rfl

theorem rDacData (data : Byte) : Statement (.rDacData data) :=
  fun _ => (txnWord_index_bits ..).trans rfl

theorem wDacOverlay (data : Byte) : Statement (.wDacOverlay data) :=
  fun _ => (txnWord_index_bits ..).trans rfl

theorem rDacOverlay (data : Byte) : Statement (.rDacOverlay data) :=
  fun _ => (txnWord_index_bits ..).trans rfl

theorem wBltWidthLo (data : Byte) : Statement (.wBltWidthLo data) :=
  fun _ => (txnWord_index_bits ..).trans rfl

theorem rBltWidthLo (data : Byte) : Statement (.rBltWidthLo data) :=
  fun _ => (txnWord_index_bits ..).trans rfl

theorem wBltWidthHi (data : Byte) : Statement (.wBltWidthHi data) :=
  fun _ => (txnWord_index_bits ..).trans rfl

theorem rBltWidthHi (data : Byte) : Statement (.rBltWidthHi data) :=
  fun _ => (txnWord_index_bits ..).trans rfl

theorem wBltHeightLo (data : Byte) : Statement (.wBltHeightLo data) :=
  fun _ => (txnWord_index_bits ..).trans rfl

theorem rBltHeightLo (data : Byte) : Statement (.rBltHeightLo data) :=
  fun _ => (txnWord_index_bits ..).trans rfl

theorem wBltHeightHi (data : Byte) : Statement (.wBltHeightHi data) :=
  fun _ => (txnWord_index_bits ..).trans rfl

theorem rBltHeightHi (data : Byte) : Statement (.rBltHeightHi data) :=
  fun _ => (txnWord_index_bits ..).trans rfl

theorem wBltDpitchLo (data : Byte) : Statement (.wBltDpitchLo data) :=
  fun _ => (txnWord_index_bits ..).trans rfl

theorem rBltDpitchLo (data : Byte) : Statement (.rBltDpitchLo data) :=
  fun _ => (txnWord_index_bits ..).trans rfl

theorem wBltDpitchHi (data : Byte) : Statement (.wBltDpitchHi data) :=
  fun _ => (txnWord_index_bits ..).trans rfl

theorem rBltDpitchHi (data : Byte) : Statement (.rBltDpitchHi data) :=
  fun _ => (txnWord_index_bits ..).trans rfl

theorem wBltSpitchLo (data : Byte) : Statement (.wBltSpitchLo data) :=
  fun _ => (txnWord_index_bits ..).trans rfl

theorem rBltSpitchLo (data : Byte) : Statement (.rBltSpitchLo data) :=
  fun _ => (txnWord_index_bits ..).trans rfl

theorem wBltSpitchHi (data : Byte) : Statement (.wBltSpitchHi data) :=
  fun _ => (txnWord_index_bits ..).trans rfl

theorem rBltSpitchHi (data : Byte) : Statement (.rBltSpitchHi data) :=
  fun _ => (txnWord_index_bits ..).trans rfl

theorem wBltDest0 (data : Byte) : Statement (.wBltDest0 data) :=
  fun _ => (txnWord_index_bits ..).trans rfl

theorem rBltDest0 (data : Byte) : Statement (.rBltDest0 data) :=
  fun _ => (txnWord_index_bits ..).trans rfl

theorem wBltDest1 (data : Byte) : Statement (.wBltDest1 data) :=
  fun _ => (txnWord_index_bits ..).trans rfl

theorem rBltDest1 (data : Byte) : Statement (.rBltDest1 data) :=
  fun _ => (txnWord_index_bits ..).trans rfl

theorem wBltDest2 (data : Byte) : Statement (.wBltDest2 data) :=
  fun _ => (txnWord_index_bits ..).trans rfl

theorem rBltDest2 (data : Byte) : Statement (.rBltDest2 data) :=
  fun _ => (txnWord_index_bits ..).trans rfl

theorem wBltSrc0 (data : Byte) : Statement (.wBltSrc0 data) :=
  fun _ => (txnWord_index_bits ..).trans rfl

theorem rBltSrc0 (data : Byte) : Statement (.rBltSrc0 data) :=
  fun _ => (txnWord_index_bits ..).trans rfl

theorem wBltSrc1 (data : Byte) : Statement (.wBltSrc1 data) :=
  fun _ => (txnWord_index_bits ..).trans rfl

theorem rBltSrc1 (data : Byte) : Statement (.rBltSrc1 data) :=
  fun _ => (txnWord_index_bits ..).trans rfl

theorem wBltSrc2 (data : Byte) : Statement (.wBltSrc2 data) :=
  fun _ => (txnWord_index_bits ..).trans rfl

theorem rBltSrc2 (data : Byte) : Statement (.rBltSrc2 data) :=
  fun _ => (txnWord_index_bits ..).trans rfl

theorem wBltMode (data : Byte) : Statement (.wBltMode data) :=
  fun _ => (txnWord_index_bits ..).trans rfl

theorem rBltMode (data : Byte) : Statement (.rBltMode data) :=
  fun _ => (txnWord_index_bits ..).trans rfl

theorem wBltStatus (data : Byte) : Statement (.wBltStatus data) :=
  fun _ => (txnWord_index_bits ..).trans rfl

theorem rBltStatus (data : Byte) : Statement (.rBltStatus data) :=
  fun _ => (txnWord_index_bits ..).trans rfl

theorem wBltRop (data : Byte) : Statement (.wBltRop data) :=
  fun _ => (txnWord_index_bits ..).trans rfl

theorem rBltRop (data : Byte) : Statement (.rBltRop data) :=
  fun _ => (txnWord_index_bits ..).trans rfl

theorem wBltTcolLo (data : Byte) : Statement (.wBltTcolLo data) :=
  fun _ => (txnWord_index_bits ..).trans rfl

theorem rBltTcolLo (data : Byte) : Statement (.rBltTcolLo data) :=
  fun _ => (txnWord_index_bits ..).trans rfl

theorem wBltTcolHi (data : Byte) : Statement (.wBltTcolHi data) :=
  fun _ => (txnWord_index_bits ..).trans rfl

theorem rBltTcolHi (data : Byte) : Statement (.rBltTcolHi data) :=
  fun _ => (txnWord_index_bits ..).trans rfl

theorem wBltTmaskLo (data : Byte) : Statement (.wBltTmaskLo data) :=
  fun _ => (txnWord_index_bits ..).trans rfl

theorem rBltTmaskLo (data : Byte) : Statement (.rBltTmaskLo data) :=
  fun _ => (txnWord_index_bits ..).trans rfl

theorem wBltTmaskHi (data : Byte) : Statement (.wBltTmaskHi data) :=
  fun _ => (txnWord_index_bits ..).trans rfl

theorem rBltTmaskHi (data : Byte) : Statement (.rBltTmaskHi data) :=
  fun _ => (txnWord_index_bits ..).trans rfl

theorem wBltData (data : Byte) : Statement (.wBltData data) :=
  fun _ => (txnWord_index_bits ..).trans rfl

theorem rBltData (data : Byte) : Statement (.rBltData data) :=
  fun _ => (txnWord_index_bits ..).trans rfl

theorem wBankRd (data : Byte) : Statement (.wBankRd data) :=
  fun _ => (txnWord_index_bits ..).trans rfl

theorem rBankRd (data : Byte) : Statement (.rBankRd data) :=
  fun _ => (txnWord_index_bits ..).trans rfl

theorem wBankWr (data : Byte) : Statement (.wBankWr data) :=
  fun _ => (txnWord_index_bits ..).trans rfl

theorem rBankWr (data : Byte) : Statement (.rBankWr data) :=
  fun _ => (txnWord_index_bits ..).trans rfl

theorem wMem (offset : Addr) (data : Byte) : Statement (.wMem offset data) :=
  fun _ => (txnWord_space_bits ..).trans rfl

theorem rMem (offset : Addr) (data : Byte) : Statement (.rMem offset data) :=
  fun _ => (txnWord_space_bits ..).trans rfl

theorem wLfb (offset : Addr) (data : Byte) : Statement (.wLfb offset data) :=
  fun _ => (txnWord_space_bits ..).trans rfl

theorem rLfb (offset : Addr) (data : Byte) : Statement (.rLfb offset data) :=
  fun _ => (txnWord_space_bits ..).trans rfl

theorem wSeqUnassigned (addr : Addr) (data : Byte) : Statement (.wSeqUnassigned addr data) :=
  fun _ => (txnWord_space_bits ..).trans rfl

theorem rSeqUnassigned (addr : Addr) (data : Byte) : Statement (.rSeqUnassigned addr data) :=
  fun _ => (txnWord_space_bits ..).trans rfl

theorem wGcUnassigned (addr : Addr) (data : Byte) : Statement (.wGcUnassigned addr data) :=
  fun _ => (txnWord_space_bits ..).trans rfl

theorem rGcUnassigned (addr : Addr) (data : Byte) : Statement (.rGcUnassigned addr data) :=
  fun _ => (txnWord_space_bits ..).trans rfl

theorem wCrtcUnassigned (addr : Addr) (data : Byte) : Statement (.wCrtcUnassigned addr data) :=
  fun _ => (txnWord_space_bits ..).trans rfl

theorem rCrtcUnassigned (addr : Addr) (data : Byte) : Statement (.rCrtcUnassigned addr data) :=
  fun _ => (txnWord_space_bits ..).trans rfl

theorem wDacUnassigned (addr : Addr) (data : Byte) : Statement (.wDacUnassigned addr data) :=
  fun _ => (txnWord_space_bits ..).trans rfl

theorem rDacUnassigned (addr : Addr) (data : Byte) : Statement (.rDacUnassigned addr data) :=
  fun _ => (txnWord_space_bits ..).trans rfl

theorem wBltUnassigned (addr : Addr) (data : Byte) : Statement (.wBltUnassigned addr data) :=
  fun _ => (txnWord_space_bits ..).trans rfl

theorem rBltUnassigned (addr : Addr) (data : Byte) : Statement (.rBltUnassigned addr data) :=
  fun _ => (txnWord_space_bits ..).trans rfl

theorem wBankUnassigned (addr : Addr) (data : Byte) : Statement (.wBankUnassigned addr data) :=
  fun _ => (txnWord_space_bits ..).trans rfl

theorem rBankUnassigned (addr : Addr) (data : Byte) : Statement (.rBankUnassigned addr data) :=
  fun _ => (txnWord_space_bits ..).trans rfl

theorem invalidSpace (word : Txn) : Statement (.invalidSpace word) :=
  fun h => single_bit word 0x8000000000 39 rfl h

theorem invalidBit33 (word : Txn) : Statement (.invalidBit33 word) := by
  intro h
  simp only [Instr.wf, Bool.and_eq_true, Bool.not_eq_true'] at h
  exact single_bit word 0x0200000000 33 rfl h.2

theorem invalidBit34 (word : Txn) : Statement (.invalidBit34 word) := by
  intro h
  simp only [Instr.wf, Bool.and_eq_true, Bool.not_eq_true'] at h
  exact single_bit word 0x0400000000 34 rfl h.2

theorem invalidBit35 (word : Txn) : Statement (.invalidBit35 word) := by
  intro h
  simp only [Instr.wf, Bool.and_eq_true, Bool.not_eq_true'] at h
  exact single_bit word 0x0800000000 35 rfl h.2

theorem ropZero : Statement (.ropZero) :=
  fun _ => rfl

theorem ropAnd : Statement (.ropAnd) :=
  fun _ => rfl

theorem ropNop : Statement (.ropNop) :=
  fun _ => rfl

theorem ropSrcAndNotDst : Statement (.ropSrcAndNotDst) :=
  fun _ => rfl

theorem ropNotDst : Statement (.ropNotDst) :=
  fun _ => rfl

theorem ropCopy : Statement (.ropCopy) :=
  fun _ => rfl

theorem ropOne : Statement (.ropOne) :=
  fun _ => rfl

theorem ropNotSrcAndDst : Statement (.ropNotSrcAndDst) :=
  fun _ => rfl

theorem ropXor : Statement (.ropXor) :=
  fun _ => rfl

theorem ropOr : Statement (.ropOr) :=
  fun _ => rfl

theorem ropNor : Statement (.ropNor) :=
  fun _ => rfl

theorem ropXnor : Statement (.ropXnor) :=
  fun _ => rfl

theorem ropSrcOrNotDst : Statement (.ropSrcOrNotDst) :=
  fun _ => rfl

theorem ropNotSrc : Statement (.ropNotSrc) :=
  fun _ => rfl

theorem ropNotSrcOrDst : Statement (.ropNotSrcOrDst) :=
  fun _ => rfl

theorem ropNand : Statement (.ropNand) :=
  fun _ => rfl

theorem ropDefault (code : Byte) : Statement (.ropDefault code) :=
  fun _ => by simp [codeBits, rowMask, rowMatch, encode]

end Sys2Proof.Laws.RowBits
end

