-- ==== Sys2Proof/Laws/Step.lean ====
section
/-! SUPPORT. Everything fetching can do, case by case. -/

namespace Sys2Proof.Machine

/-- A pending reset goes before everything. -/
theorem fetch_reset {s : State} {rest : List HostEvent} (h : s.pending = .reset :: rest) : fetch s = none := by
  simp [fetch, h]

/-- A VRAM transfer in progress goes before the transactions. -/
theorem fetch_xferVram {s : State} (hf : s.blt.fsm = .xferVram) (hp : ∀ rest, s.pending ≠ .reset :: rest) :
    fetch s = some (.rop s.blt.rop, s) := by
  unfold fetch
  split <;> simp_all

/-- Nothing is fetched while the engine is ARMED. -/
theorem fetch_armed {s : State} (hf : s.blt.fsm = .armed) : fetch s = none := by
  unfold fetch
  split <;> simp_all

/-- A pending reset resets the device. -/
theorem stepWithout_reset {s : State} {rest : List HostEvent} (h : s.pending = .reset :: rest) :
    stepWithout s = deviceReset (takeEvent rest s) := by
  simp [stepWithout, h]

/-- Everything `engineByte` can do. -/
theorem engineByte_cases (code : Byte) (f : Byte → Byte → Byte) (s : State) :
    (s.blt.fsm = .xferVram ∧ engineByte code f s = byteOperation (rasterIn s.cfg.rops code f) s) ∨
    (s.blt.fsm ≠ .xferVram ∧ engineByte code f s = s) := by
  unfold engineByte
  split
  · next h => exact .inl ⟨h, rfl⟩
  · next h => exact .inr ⟨h, rfl⟩

end Sys2Proof.Machine
end

