-- ==== Sys2Proof/Tests/Slice0.lean ====
section
/-! SUPPORT. The model's own tests: what the well-formedness check refuses, the decoding of a word of every row of the opcode
table, single steps on small states (expected results from 95_test_vectors.md), and states that meet the hypotheses of the
statements. -/

namespace Sys2Proof.Tests

open Sys2Proof.Machine

/-! ### What the well-formedness check refuses (30_encoding.md R92..R99, R102, R105, R106) -/

theorem test_wf_refuses_assigned_seq : (Instr.wSeqUnassigned 0x000012 0).wf = false ∧
    (Instr.rSeqUnassigned 0x0000F0 0).wf = false ∧ (Instr.wSeqUnassigned 0x000031 0).wf = false := by decide

theorem test_wf_refuses_assigned_gc : (Instr.wGcUnassigned 0x00000B 0).wf = false ∧
    (Instr.rGcUnassigned 0x000011 0).wf = false := by decide

theorem test_wf_refuses_assigned_crtc : (Instr.wCrtcUnassigned 0x000019 0).wf = false ∧
    (Instr.rCrtcUnassigned 0x000027 0).wf = false := by decide

theorem test_wf_refuses_assigned_dac : (Instr.wDacUnassigned 0x000000 0).wf = false ∧
    (Instr.rDacUnassigned 0x000004 0).wf = false := by decide

theorem test_wf_refuses_assigned_blt : (Instr.wBltUnassigned 0x000020 0).wf = false ∧
    (Instr.rBltUnassigned 0x00003F 0).wf = false := by decide

theorem test_wf_refuses_assigned_bank : (Instr.wBankUnassigned 0x000000 0).wf = false ∧
    (Instr.rBankUnassigned 0x000001 0).wf = false := by decide

theorem test_wf_refuses_valid_space : (Instr.invalidSpace 0x7200000000).wf = false := by decide

theorem test_wf_refuses_clear_bit33 : (Instr.invalidBit33 0x0C00000000).wf = false ∧
    (Instr.invalidBit33 0x8200000000).wf = false := by decide

theorem test_wf_refuses_clear_bit34 : (Instr.invalidBit34 0x0800000000).wf = false ∧
    (Instr.invalidBit34 0x0600000000).wf = false := by decide

theorem test_wf_refuses_clear_bit35 : (Instr.invalidBit35 0x7100000000).wf = false ∧
    (Instr.invalidBit35 0x0C00000000).wf = false := by decide

theorem test_wf_refuses_listed_rop : (Instr.ropDefault 0x00).wf = false ∧ (Instr.ropDefault 0xDA).wf = false := by decide

/-- An unassigned index is unassigned with `addr[23:8]` set too, and the indices next to the assigned ones are. -/
theorem test_wf_admits_unassigned : (Instr.wSeqUnassigned 0x000112 0).wf = true ∧ (Instr.rSeqUnassigned 0x000032 0).wf = true ∧
    (Instr.wGcUnassigned 0x000012 0).wf = true ∧ (Instr.wCrtcUnassigned 0x000018 0).wf = true ∧
    (Instr.wDacUnassigned 0x000005 0).wf = true ∧ (Instr.wBltUnassigned 0x000040 0).wf = true ∧
    (Instr.wBankUnassigned 0x000002 0).wf = true := by decide

/-! ### Decoding: one word of each row (30_encoding.md R90..R106; the words are the match words of spec/opcode_table.json with
operand bits filled in) -/

/-- Each word decodes to the instruction beside it. -/
def decodesAll (nbits : Nat) (table : List (Nat × Instr)) : Bool :=
  table.all fun p => decodeTableWord nbits p.1 == some p.2

/-- One word of each space, bit by bit: space, `000`, rw, `addr[23:8]`, index, data. -/
theorem test_decode_fields :
    decodesAll 40 [
      (0b0000000000010010001101000101011000000000, .rMem 0x123456 0x00),
      (0b0001000100010010001101000101011010000000, .wLfb 0x123456 0x80),
      (0b0010000100000000000000000000011100000111, .wSeqExtMode 0x07),
      (0b0010000100000000000000000101000000101000, .wSeqCursorX 2 0x28),
      (0b0011000100000000000000000001000001111100, .wGcBg1 0x7C),
      (0b0100000000000000000000000001100100000000, .rCrtcExt19 0x00),
      (0b0101000100000000000000000000010000010000, .wDacOverlay 0x10),
      (0b0110000100000000000000000011000100000010, .wBltStatus 0x02),
      (0b0111000100000000000000000000000000000011, .wBankRd 0x03)] = true := by decide

theorem test_decode_unassigned_high_address : decodesAll 40 [
    (0x2100010612, .wSeqUnassigned 0x000106 0x12), (0x3000010000, .rGcUnassigned 0x000100 0x00),
    (0x4101001900, .wCrtcUnassigned 0x010019 0x00), (0x5100010000, .wDacUnassigned 0x000100 0x00),
    (0x6100013200, .wBltUnassigned 0x000132 0x00), (0x7080000000, .rBankUnassigned 0x800000 0x00)] = true := by decide

theorem test_decode_invalid_first_matching_row : decodesAll 40 [
    (0xFFFFFFFFFF, .invalidSpace 0xFFFFFFFFFF), (0x6300003200, .invalidBit33 0x6300003200),
    (0x7F00000000, .invalidBit33 0x7F00000000), (0x7C00000000, .invalidBit34 0x7C00000000),
    (0x7900000000, .invalidBit35 0x7900000000)] = true := by decide

theorem test_decode_seq_1 : decodesAll 40 [
  (0x21000006A5, .wSeqLock 0xA5), (0x2000000600, .rSeqLock 0x00), (0x21000007A5, .wSeqExtMode 0xA5),
  (0x2000000700, .rSeqExtMode 0x00), (0x21000009A5, .wSeqScratch1 0xA5), (0x2000000900, .rSeqScratch1 0x00),
  (0x2100000AA5, .wSeqScratch2 0xA5), (0x2000000A00, .rSeqScratch2 0x00), (0x21000014A5, .wSeqScratch3 0xA5),
  (0x2000001400, .rSeqScratch3 0x00), (0x2100000BA5, .wSeqVclkNum0 0xA5), (0x2000000B00, .rSeqVclkNum0 0x00),
  (0x2100000CA5, .wSeqVclkNum1 0xA5), (0x2000000C00, .rSeqVclkNum1 0x00), (0x2100000DA5, .wSeqVclkNum2 0xA5),
  (0x2000000D00, .rSeqVclkNum2 0x00), (0x2100000EA5, .wSeqVclkNum3 0xA5), (0x2000000E00, .rSeqVclkNum3 0x00),
  (0x2100001BA5, .wSeqVclkDenom0 0xA5), (0x2000001B00, .rSeqVclkDenom0 0x00)] = true := by decide

theorem test_decode_seq_2 : decodesAll 40 [
  (0x2100001CA5, .wSeqVclkDenom1 0xA5), (0x2000001C00, .rSeqVclkDenom1 0x00),
  (0x2100001DA5, .wSeqVclkDenom2 0xA5), (0x2000001D00, .rSeqVclkDenom2 0x00),
  (0x2100001EA5, .wSeqVclkDenom3 0xA5), (0x2000001E00, .rSeqVclkDenom3 0x00),
  (0x210000B0A5, .wSeqCursorX 5 0xA5), (0x200000B000, .rSeqCursorX 5 0x00), (0x210000B1A5, .wSeqCursorY 5 0xA5),
  (0x200000B100, .rSeqCursorY 5 0x00), (0x21000012A5, .wSeqCursorAttr 0xA5),
  (0x2000001200, .rSeqCursorAttr 0x00), (0x21000013A5, .wSeqCursorAddr 0xA5),
  (0x2000001300, .rSeqCursorAddr 0x00)] = true := by decide

theorem test_decode_gc : decodesAll 40 [
  (0x31000000A5, .wGcBg0 0xA5), (0x3000000000, .rGcBg0 0x00), (0x31000001A5, .wGcFg0 0xA5),
  (0x3000000100, .rGcFg0 0x00), (0x3100000BA5, .wGcModeExt 0xA5), (0x3000000B00, .rGcModeExt 0x00),
  (0x31000010A5, .wGcBg1 0xA5), (0x3000001000, .rGcBg1 0x00), (0x31000011A5, .wGcFg1 0xA5),
  (0x3000001100, .rGcFg1 0x00)] = true := by decide

theorem test_decode_crtc : decodesAll 40 [
  (0x41000019A5, .wCrtcExt19 0xA5), (0x4000001900, .rCrtcExt19 0x00), (0x4100001AA5, .wCrtcExt1A 0xA5),
  (0x4000001A00, .rCrtcExt1A 0x00), (0x4100001BA5, .wCrtcExt1B 0xA5), (0x4000001B00, .rCrtcExt1B 0x00),
  (0x41000027A5, .wCrtcId 0xA5), (0x4000002700, .rCrtcId 0x00)] = true := by decide

theorem test_decode_dac : decodesAll 40 [
  (0x51000000A5, .wDacMask 0xA5), (0x5000000000, .rDacMask 0x00), (0x51000001A5, .wDacIndexR 0xA5),
  (0x5000000100, .rDacIndexR 0x00), (0x51000002A5, .wDacIndexW 0xA5), (0x5000000200, .rDacIndexW 0x00),
  (0x51000003A5, .wDacData 0xA5), (0x5000000300, .rDacData 0x00), (0x51000004A5, .wDacOverlay 0xA5),
  (0x5000000400, .rDacOverlay 0x00)] = true := by decide

theorem test_decode_blt_1 : decodesAll 40 [
  (0x61000020A5, .wBltWidthLo 0xA5), (0x6000002000, .rBltWidthLo 0x00), (0x61000021A5, .wBltWidthHi 0xA5),
  (0x6000002100, .rBltWidthHi 0x00), (0x61000022A5, .wBltHeightLo 0xA5), (0x6000002200, .rBltHeightLo 0x00),
  (0x61000023A5, .wBltHeightHi 0xA5), (0x6000002300, .rBltHeightHi 0x00), (0x61000024A5, .wBltDpitchLo 0xA5),
  (0x6000002400, .rBltDpitchLo 0x00), (0x61000025A5, .wBltDpitchHi 0xA5), (0x6000002500, .rBltDpitchHi 0x00),
  (0x61000026A5, .wBltSpitchLo 0xA5), (0x6000002600, .rBltSpitchLo 0x00), (0x61000027A5, .wBltSpitchHi 0xA5),
  (0x6000002700, .rBltSpitchHi 0x00), (0x61000028A5, .wBltDest0 0xA5), (0x6000002800, .rBltDest0 0x00),
  (0x61000029A5, .wBltDest1 0xA5), (0x6000002900, .rBltDest1 0x00)] = true := by decide

theorem test_decode_blt_2 : decodesAll 40 [
  (0x6100002AA5, .wBltDest2 0xA5), (0x6000002A00, .rBltDest2 0x00), (0x6100002CA5, .wBltSrc0 0xA5),
  (0x6000002C00, .rBltSrc0 0x00), (0x6100002DA5, .wBltSrc1 0xA5), (0x6000002D00, .rBltSrc1 0x00),
  (0x6100002EA5, .wBltSrc2 0xA5), (0x6000002E00, .rBltSrc2 0x00), (0x61000030A5, .wBltMode 0xA5),
  (0x6000003000, .rBltMode 0x00), (0x61000031A5, .wBltStatus 0xA5), (0x6000003100, .rBltStatus 0x00),
  (0x61000032A5, .wBltRop 0xA5), (0x6000003200, .rBltRop 0x00), (0x61000034A5, .wBltTcolLo 0xA5),
  (0x6000003400, .rBltTcolLo 0x00), (0x61000035A5, .wBltTcolHi 0xA5), (0x6000003500, .rBltTcolHi 0x00),
  (0x61000038A5, .wBltTmaskLo 0xA5), (0x6000003800, .rBltTmaskLo 0x00)] = true := by decide

theorem test_decode_blt_3 : decodesAll 40 [
  (0x61000039A5, .wBltTmaskHi 0xA5), (0x6000003900, .rBltTmaskHi 0x00), (0x6100003FA5, .wBltData 0xA5),
  (0x6000003F00, .rBltData 0x00)] = true := by decide

theorem test_decode_bank : decodesAll 40 [
  (0x71000000A5, .wBankRd 0xA5), (0x7000000000, .rBankRd 0x00), (0x71000001A5, .wBankWr 0xA5),
  (0x7000000100, .rBankWr 0x00)] = true := by decide

theorem test_decode_aperture : decodesAll 40 [
  (0x01123456A5, .wMem 0x123456 0xA5), (0x0012345600, .rMem 0x123456 0x00), (0x11123456A5, .wLfb 0x123456 0xA5),
  (0x1012345600, .rLfb 0x123456 0x00)] = true := by decide

theorem test_decode_unassigned : decodesAll 40 [
  (0x21000008A5, .wSeqUnassigned 0x000008 0xA5), (0x2000000800, .rSeqUnassigned 0x000008 0x00),
  (0x31000012A5, .wGcUnassigned 0x000012 0xA5), (0x3000001200, .rGcUnassigned 0x000012 0x00),
  (0x4100001CA5, .wCrtcUnassigned 0x00001C 0xA5), (0x4000001C00, .rCrtcUnassigned 0x00001C 0x00),
  (0x51000009A5, .wDacUnassigned 0x000009 0xA5), (0x5000000900, .rDacUnassigned 0x000009 0x00),
  (0x61000033A5, .wBltUnassigned 0x000033 0xA5), (0x6000003300, .rBltUnassigned 0x000033 0x00),
  (0x71000002A5, .wBankUnassigned 0x000002 0xA5), (0x7000000200, .rBankUnassigned 0x000002 0x00)] = true := by decide

theorem test_decode_invalid : decodesAll 40 [
  (0x8000000000, .invalidSpace 0x8000000000), (0x0200000000, .invalidBit33 0x0200000000),
  (0x0400000000, .invalidBit34 0x0400000000), (0x0800000000, .invalidBit35 0x0800000000)] = true := by decide

theorem test_decode_rop : decodesAll 8 [
  (0x00, .ropZero), (0x05, .ropAnd), (0x06, .ropNop), (0x09, .ropSrcAndNotDst), (0x0B, .ropNotDst),
  (0x0D, .ropCopy), (0x0E, .ropOne), (0x50, .ropNotSrcAndDst), (0x59, .ropXor), (0x6D, .ropOr), (0x90, .ropNor),
  (0x95, .ropXnor), (0xAD, .ropSrcOrNotDst), (0xD0, .ropNotSrc), (0xD6, .ropNotSrcOrDst), (0xDA, .ropNand),
  (0x01, .ropDefault 0x01), (0xFF, .ropDefault 0xFF)] = true := by decide

/-! ### Single steps (expected results: 95_test_vectors.md) -/

/-- The machine after reset, unlocked. -/
def opened : State := { State.reset with rf := { RegFile.reset Config.default with lockReg := 0x12 } }

/-- The machine unlocked, with an engine set up and some VRAM (95_test_vectors.md `SETUP`). -/
def setup (width height dpitch spitch : Word16) (dest source : Addr) (mode rop : Byte) (cells : List Host.Cell) : State :=
  { opened with
    blt := { Blt.reset with
      width := width, height := height, destPitch := dpitch, sourcePitch := spitch, dest := dest, source := source
      mode := mode, rop := rop }
    vram := { cells := cells } }

/-- What a result's next state satisfies. -/
def holds (r : Result) (p : State → Bool) : Bool :=
  match r with
  | .next t => p t
  | _ => false

/-- The eight VRAM bytes from `a` on. -/
def eight (s : State) (a : Nat) : List Byte := (List.range 8).map fun k => memRead s (a + k)

/-- VRAM cells from address `a` on. -/
def cellsFrom (a : Nat) : List Byte → List Host.Cell
  | [] => []
  | v :: rest => (a, v) :: cellsFrom (a + 1) rest

/-- V1, source bytes 1 to 8. -/
def oneToEight : List Byte := [1, 2, 3, 4, 5, 6, 7, 8]

theorem test_v1_copy : holds (exec (.wBltStatus 0x02) (setup 4 2 4 4 0x1000 0 0x00 0x0D (cellsFrom 0 oneToEight)))
    (fun t => eight t 0x1000 == oneToEight && t.blt.fsm == .idle && t.blt.scanCount == 2 && t.blt.pixelCount == 0 &&
      t.blt.destCurrent == 0x001007) = true := by decide

theorem test_v2_xor : holds (exec (.wBltStatus 0x02)
    (setup 4 2 4 4 0x1000 0 0x00 0x59 (cellsFrom 0 oneToEight ++ cellsFrom 0x1000 (List.replicate 8 0xFF))))
    (fun t => eight t 0x1000 == [0xFE, 0xFD, 0xFC, 0xFB, 0xFA, 0xF9, 0xF8, 0xF7]) = true := by decide

/-- V5c. -/
theorem test_v5c_transparency_mask : holds (exec (.wBltStatus 0x02)
    { setup 8 1 8 8 0x1000 0 0x08 0x0D
        ([(0, 0x10), (2, 0x20), (4, 0x30), (5, 0x01), (7, 0x40)] ++ cellsFrom 0x1000 (List.replicate 8 0xEE)) with
      blt.transColourMask := 0x00F0 })
    (fun t => eight t 0x1000 == [0x10, 0xEE, 0x20, 0xEE, 0x30, 0xEE, 0xEE, 0x40]) = true := by decide

/-- V7: reverse, the destination above the source. -/
theorem test_v7_reverse_overlap : holds (exec (.wBltStatus 0x02)
    (setup 8 1 8 8 0x109 0x107 0x01 0x0D (cellsFrom 0x100 oneToEight))) (fun t => eight t 0x102 == oneToEight) = true := by decide

/-- V8: the same rectangles forward. -/
theorem test_v8_forward_smears : holds (exec (.wBltStatus 0x02)
    (setup 8 1 8 8 0x102 0x100 0x00 0x0D (cellsFrom 0x100 oneToEight)))
    (fun t => eight t 0x102 == [1, 2, 1, 2, 1, 2, 1, 2]) = true := by decide

/-- V14a: expansion to 16-bit pixels. -/
theorem test_v14a_expand16 : holds (exec (.wBltStatus 0x02)
    { setup 4 1 4 1 0x1000 0x300 0x90 0x0D ((0x300, 0x80) :: cellsFrom 0x1000 (List.replicate 8 0x77)) with
      rf.fg0 := 0x34, rf.fg1 := 0x12 })
    (fun t => eight t 0x1000 == [0x34, 0x12, 0x00, 0x00, 0x77, 0x77, 0x77, 0x77]) = true := by decide

/-- V15 with one row: the colour pattern repeats after eight columns. -/
theorem test_v15_pattern_row : holds (exec (.wBltStatus 0x02)
    (setup 10 1 16 0 0x1000 0x2000 0x40 0x0D (cellsFrom 0x2001 [1, 2, 3, 4, 5, 6, 7])))
    (fun t => eight t 0x1000 == [0, 1, 2, 3, 4, 5, 6, 7] && memRead t 0x1008 == 0 && memRead t 0x1009 == 1) = true := by decide

/-- V16 with one row: the monochrome pattern. -/
theorem test_v16_mono_pattern_row : holds (exec (.wBltStatus 0x02)
    { setup 8 1 8 0 0x1000 0x2000 0xC0 0x0D [(0x2000, 0xF0)] with rf.fg0 := 0xFF })
    (fun t => eight t 0x1000 == [0xFF, 0xFF, 0xFF, 0xFF, 0, 0, 0, 0]) = true := by decide

/-- V19a: the destination wraps at the end of VRAM. -/
theorem test_v19a_wrap : holds (exec (.wBltStatus 0x02)
    (setup 4 1 4 4 0x1FFFFE 0 0x00 0x0D (cellsFrom 0 [1, 2, 3, 4])))
    (fun t => memRead t 0x1FFFFE == 1 && memRead t 0x1FFFFF == 2 && memRead t 0 == 3 && memRead t 1 == 4 &&
      t.blt.destCurrent == 0x200001) = true := by decide

/-- V21: START while locked is discarded. -/
theorem test_v21_locked_start : holds (exec (.wBltStatus 0x02)
    { setup 4 2 4 4 0x1000 0 0x00 0x0D (cellsFrom 0 oneToEight) with rf.lockReg := 0 })
    (fun t => eight t 0x1000 == List.replicate 8 0) = true := by decide

/-- A system transfer of V11 with its first byte fed, waiting for its second. -/
def v11 : State :=
  { setup 10 2 16 0 0x1000 0 0x84 0x0D [] with
    rf.bg0 := 0x11, rf.fg0 := 0xEE
    blt.fsm := .xferSys, blt.pixelCount := 8, blt.destCurrent := 0x1008 }

theorem test_v11_row_end : holds (exec (.wBltData 0xC0) v11)
    (fun t => t.blt.fsm == .xferSys && t.blt.scanCount == 1 && t.blt.pixelCount == 0 && t.blt.destCurrent == 0x1010 &&
      memRead t 0x1008 == 0xEE && memRead t 0x1009 == 0xEE && memRead t 0x100A == 0) = true := by decide

/-- V12: one byte completes a transfer of three 16-bit pixels. -/
theorem test_v12_expand_feed : holds (exec (.wBltData 0xA0)
    { setup 6 1 6 0 0x1000 0 0x94 0x0D [] with
      rf.bg1 := 0x80, rf.fg0 := 0x34, rf.fg1 := 0x12, blt.fsm := .xferSys, blt.destCurrent := 0x1000 })
    (fun t => t.blt.fsm == .idle && eight t 0x1000 == [0x34, 0x12, 0x00, 0x80, 0x34, 0x12, 0, 0]) = true := by decide

/-- V30: what the key leaves in the lock register, and what the register reads as. -/
theorem test_v30_lock : holds (exec (.wSeqLock 0xFA) State.reset) (fun t => t.rf.lockReg == 0x12) &&
    holds (exec (.wSeqLock 0x13) State.reset) (fun t => t.rf.lockReg == 0x13) &&
    holds (exec (.rSeqLock 0) State.reset) (fun t => t.answer == some 0x0F) &&
    holds (exec (.rSeqLock 0) opened) (fun t => t.answer == some 0x12) = true := by decide

/-- V32: protected and unprotected writes while locked. -/
theorem test_v32_gate : holds (exec (.wGcBg0 0x44) State.reset) (fun t => t.rf.bg0 == 0x44) &&
    holds (exec (.wGcBg1 0x55) State.reset) (fun t => t.rf.bg1 == 0) = true := by decide

/-- A chip with two scratch registers: the index of the third is unassigned (10_state.md R14; 30_encoding.md R105). -/
theorem test_absent_scratch :
    holds (exec (.rSeqScratch3 0) { opened with cfg.nScratch := 2 }) (fun t => t.answer == some 0xFF) &&
    holds (exec (.wSeqScratch3 5) { opened with cfg.nScratch := 2 }) (fun t => t.rf.scratch == [0, 0, 0]) &&
    holds (exec (.wSeqScratch3 5) opened) (fun t => t.rf.scratch == [0, 0, 5]) = true := by decide

/-- R131's example: slot 2 is written, slots 0, 1, 3 are not. -/
theorem test_vclk_slot :
    holds (exec (.wSeqVclkNum2 0x4A) opened) (fun t => t.rf.vclkNum == [0, 0, 0x4A, 0]) = true := by decide

/-- The variant selects its row of the capability table (00_scope.md R5). -/
theorem test_variant_selects_capabilities :
    (({ Config.default with variant := .gd5428 } : Config).rops.length = 16) ∧
    ({ Config.default with variant := .gd5446, capTable := { Config.default.capTable with gd5446 := ⟨[0x0D], .px64⟩ } } :
      Config).cursorSize = .px64 := by decide

/-- V35: the bytes of the extents and addresses. -/
theorem test_v35_assembly :
    holds (exec (.wBltWidthLo 0x04) { opened with blt := { Blt.reset with width := 0x0100 } }) (fun t => t.blt.width == 0x0104) &&
    holds (exec (.wBltDest1 0x34) { opened with blt := { Blt.reset with dest := 0x120056 } })
      (fun t => t.blt.dest == 0x123456) &&
    holds (exec (.rBltDest2 0) { opened with blt := { Blt.reset with dest := 0x123456 } })
      (fun t => t.answer == some 0x12) = true := by decide

/-- V41, V42: the two banks, and the wrap. -/
theorem test_v41_banks :
    holds (exec (.wMem 0x000004 0x99) { opened with rf.bankWr := 0x01 }) (fun t => memRead t 0x010004 == 0x99) &&
    holds (exec (.rMem 0x000010 0) { setup 0 0 0 0 0 0 0 0 [(0x30010, 0xCD)] with rf.bankRd := 0x23 })
      (fun t => t.answer == some 0xCD) = true := by decide

/-- V50, the fourth access: the mode toggles. -/
theorem test_v50_toggle : holds (exec (.rDacMask 0) { opened with hdac := { mode := .normal, phase := 3 } })
    (fun t => t.answer == some 0xFF && t.hdac == { mode := .hidden, phase := 0 }) = true := by decide

/-- V54: an unassigned port breaks the sequence. -/
theorem test_v54_unassigned_port : holds (exec (.rDacUnassigned 0x000009 0) { opened with hdac := { mode := .normal, phase := 3 } })
    (fun t => t.answer == some 0xFF && t.hdac == { mode := .normal, phase := 0 }) = true := by decide

/-- V57, the wrap of the extended palette, and the counter after blue. -/
theorem test_v57_hidden_write : holds (exec (.wDacData 0x51)
    { opened with hdac := { mode := .hidden, phase := 2 }, dac.writeIndex := 0x10, dac.wcomp := .blue })
    (fun t => t.cur.extPalette[0].blue == 0x11 && t.dac.writeIndex == 0x11 && t.dac.wcomp == .red && t.hdac.phase == 0) =
      true := by decide

/-- V60: cursor coordinates. -/
theorem test_v60_cursor : holds (exec (.wSeqCursorY 3 0x40) opened) (fun t => t.cur.y == 0x203) &&
    holds (exec (.rSeqCursorX 1 0) { opened with cur.x := 0x7FF }) (fun t => t.answer == some 0xFF) = true := by decide

/-- V61: the bitmap's base. -/
theorem test_v61_cursor_base : cursorBase { opened with cur.addrReg := 0x7F } = 0x1FFF00 ∧
    cursorBase { opened with cur.addrReg := 0x3F, cfg.capTable.gd5430.cursorSize := .px64 } = 0x1FFC00 := by decide

/-- The overlay of program P4's kind: bit 7 of the bitmap's first byte is the leftmost pixel (42_cursor_overlay.md R198). -/
theorem test_overlay_leftmost :
    overlay { setup 0 0 0 0 0 0 0 0 [(0x1FC000, 0x80)] with
        cur := { Cursor.reset with x := 5, attr := 1, extPalette := Cursor.reset.extPalette.set 15 ⟨1, 2, 3⟩ } } 5 0 =
      .colour ⟨1, 2, 3⟩ := by decide

/-- The step takes the oldest transaction and leaves the others. -/
theorem test_step_takes_oldest :
    holds (step { opened with pending := [.txn 0x310000007C, .txn 0x2000000600], answer := some 9 })
      (fun t => t.rf.bg0 == 0x7C && t.pending == [.txn 0x2000000600] && t.answer == none) = true := by decide

/-- The step resets the device and keeps VRAM (70_reset_and_hazards.md R340, R341). -/
theorem test_step_reset : holds (step { v11 with vram := { cells := [(3, 9)] }, pending := [.reset] })
    (fun t => t.blt.fsm == .idle && t.rf.lockReg == 0 && memRead t 3 == 9 && t.pending == []) = true := by decide

/-- The interface places a word to run next. -/
theorem test_withFetchWord :
    holds (step (State.reset.withFetchWord 40 0x2100000612)) (fun t => unlocked t) &&
    holds (step (State.reset.withFetchWord 8 0x0E)) (fun t => memRead t 0 == 0xFF) = true := by decide

/-! ### States that meet the hypotheses of the statements -/

/-- A parameter set in which one register more than by default is protected. -/
def protecting (r : Reg) (s : State) : State := { s with cfg.protectedRegs := r :: s.cfg.protectedRegs }

/-- The register statements: the gate open, for every register, protected or not. -/
theorem test_witness_gate_open : ∀ r : StoredReg, GateOpen opened (.stored r) := fun _ _ => rfl

/-- The register statements: the gate shut on every default-protected register. -/
theorem test_witness_gate_shut : ∀ r ∈ Config.defaultProtected, GateShut State.reset r := fun r hr => ⟨hr, by decide⟩

/-- The register statements: the gate shut on a register another table protects. -/
theorem test_witness_gate_shut_bg0_fg0 : GateShut (protecting (.stored .gcBg0) State.reset) (.stored .gcBg0) ∧
    GateShut (protecting (.stored .gcFg0) State.reset) (.stored .gcFg0) := by decide

/-- The scratch and clock registers: the last slot that is there, the first that is not. -/
theorem test_witness_counted_registers :
    (2 < opened.cfg.nScratch ∧ 3 < opened.cfg.nVclk ∧ GateOpen opened (.stored .seqScratch3)) ∧
    GateShut State.reset (.stored .seqVclkNum3) ∧
    ({ opened with cfg.nScratch := 2, cfg.nVclk := 0 } : State).cfg.nScratch ≤ 2 ∧
    ({ opened with cfg.nScratch := 2, cfg.nVclk := 0 } : State).cfg.nVclk ≤ 0 := by decide

/-- The lock register and the DAC ports: the gate open while locked under the default table, and shut under another. -/
theorem test_witness_gate_lock_and_dac : ∀ r ∈ [Reg.seqLock, .dacMask, .dacIndexR, .dacIndexW, .dacData, .dacOverlay],
    GateOpen State.reset r ∧ GateShut (protecting r State.reset) r := by decide

theorem test_witness_CursorCoordinateRegisters :
    GateOpen opened .seqCursorX ∧ GateShut State.reset .seqCursorX ∧ GateOpen opened .seqCursorY ∧
      GateShut State.reset .seqCursorY := by decide

theorem test_witness_UnassignedIndices_seq : ∀ i ∈ ([0x00, 0x05, 0x08, 0x0F, 0x15, 0x1A, 0x1F, 0x32, 0xFF] : List Byte),
    i.extractLsb' 0 5 ≠ 0x10 ∧ i.extractLsb' 0 5 ≠ 0x11 ∧
    i ∉ ([0x06, 0x07, 0x09, 0x0A, 0x0B, 0x0C, 0x0D, 0x0E, 0x12, 0x13, 0x14, 0x1B, 0x1C, 0x1D, 0x1E] : List Byte) := by decide

theorem test_witness_UnassignedIndices_gc_crtc_bank :
    (∀ i ∈ ([0x02, 0x0A, 0x0C, 0x0F, 0x12, 0xFF] : List Byte), i ∉ ([0x00, 0x01, 0x0B, 0x10, 0x11] : List Byte)) ∧
    (∀ i ∈ ([0x00, 0x18, 0x1C, 0x26, 0x28, 0xFF] : List Byte), i ∉ ([0x19, 0x1A, 0x1B, 0x27] : List Byte)) ∧
    ∀ i ∈ ([0x02, 0xFF] : List Byte), 2 ≤ i.toNat := by decide

theorem test_witness_UnassignedIndices_blt :
    ∀ i ∈ ([0x00, 0x1F, 0x2B, 0x2F, 0x33, 0x36, 0x37, 0x3A, 0x3E, 0x40, 0xFF] : List Byte),
      (i.toNat < 0x20 ∨ i = 0x2B ∨ i = 0x2F ∨ i = 0x33 ∨ i = 0x36 ∨ i = 0x37 ∨
        (0x3A ≤ i.toNat ∧ i.toNat ≤ 0x3E) ∨ 0x40 ≤ i.toNat) := by decide

theorem test_witness_UnassignedDacPorts : ∀ i ∈ ([0x05, 0xFF] : List Byte), 5 ≤ i.toNat := by decide

theorem test_witness_InvalidWordsChangeNothing :
    (0x0200000000 : Txn).extractLsb' 33 3 ≠ 0 ∧ (0x0400000000 : Txn).extractLsb' 33 3 ≠ 0 ∧
    (0x0800000000 : Txn).extractLsb' 33 3 ≠ 0 ∧ 8 ≤ ((0x8000000000 : Txn).extractLsb' 36 4).toNat ∧
    8 ≤ ((0xF000000000 : Txn).extractLsb' 36 4).toNat := by decide

/-- The wrap of the phase, and a phase before it. -/
theorem test_witness_MaskPort : ∀ p ∈ ([0, 2, 3] : List Nat), ∃ s : State, ∃ h : HiddenDac, s.hdac.phase = p ∧
    h = (if s.hdac.phase + 1 = s.cfg.hdacCycle then
        { mode := if s.hdac.mode = .normal then .hidden else .normal, phase := 0 }
      else { mode := s.hdac.mode, phase := s.hdac.phase + 1 }) :=
  fun p _ => ⟨{ opened with hdac := { mode := .normal, phase := p } }, _, rfl, rfl⟩

theorem test_witness_MaskAccessesCountTheCycle :
    (∀ i ∈ [Instr.rDacMask 0, .wDacMask 0x0F], isMaskAccess i = true) ∧ GateOpen opened .dacMask ∧
    ({ opened with hdac := { mode := .normal, phase := 3 } } : State).hdac.phase < opened.cfg.hdacCycle := by decide

theorem test_witness_OtherDacAccessesBreakTheSequence :
    isDacAccess (.wDacOverlay 1) = true ∧ isMaskAccess (.wDacOverlay 1) = false ∧
    ∀ r, writtenRegister (.wDacOverlay 1) = some r → GateOpen State.reset r :=
  ⟨rfl, rfl, fun r h => by cases h; decide⟩

theorem test_witness_OtherSpacesIgnoreTheHiddenDac : isDacAccess (.wBltStatus 2) = false := by decide

theorem test_witness_DacDataWrite_other_component :
    ¬ (SameEntry .hidden 0x12 .hidden 0x02 ∧ Component.green = Component.red) ∧ ¬ SameEntry .normal 0x12 .normal 0x02 ∧
      SameEntry .hidden 0x12 .hidden 0x02 :=
  ⟨fun h => (by decide : Component.green ≠ .red) h.2, fun h => (by decide : (0x12 : Byte) ≠ 0x02) h.2, rfl, rfl⟩

theorem test_witness_DacDataRead : ∀ m : DacMode, ∃ s : State, ∃ e : Rgb, s.hdac.mode = m ∧
    e = (match s.hdac.mode with
      | .normal => s.dac.palette[s.dac.readIndex.toNat]
      | .hidden => s.cur.extPalette[s.dac.readIndex.toNat % 16]) :=
  fun m => ⟨{ opened with hdac := { mode := m, phase := 0 } }, _, rfl, rfl⟩

theorem test_witness_BankedAperture_stored_and_other :
    (0x210004 % State.reset.cfg.vramSize = (0x01 * 0x10000 + 0x000004 % 0x10000) % State.reset.cfg.vramSize) ∧
    ¬ (0x010005 % State.reset.cfg.vramSize = (0x01 * 0x10000 + 0x000004 % 0x10000) % State.reset.cfg.vramSize) := by decide

theorem test_witness_StatusWriteDiscarded :
    GateShut State.reset .bltStatus ∧ (0xFD : Byte).getLsbD 1 = false ∧ v11.blt.fsm ≠ .idle := by decide

/-- V6. -/
theorem test_witness_DegenerateStart :
    (Starts (setup 0 2 4 4 0x1000 0 0x00 0x0D []) 0x02 ∧ (setup 0 2 4 4 0x1000 0 0x00 0x0D []).blt.width = 0) ∧
    Starts (setup 4 0 4 4 0x1000 0 0x04 0x0D []) 0xFF ∧ (setup 4 0 4 4 0x1000 0 0x04 0x0D []).blt.height = 0 := by decide

/-- V10: plain and expanded system transfers that start, and whose port is open. -/
theorem test_witness_SystemStart_and_byte_counts : ∀ mode ∈ ([0x04, 0x84, 0x94] : List Byte),
    let s := setup 4 2 4 0 0x1000 0 mode 0x59 []
    Starts s 0x02 ∧ GateOpen s .bltData ∧ s.blt.width ≠ 0 ∧ s.blt.height ≠ 0 ∧ s.blt.mode.getLsbD 2 = true ∧
      s.blt.mode.getLsbD 7 = (mode != 0x04) := by decide

/-- The three cases of the advance at the largest extents. -/
theorem test_witness_AdvancePosition :
    let b := (setup 0xFFFF 0xFFFF 1 1 0 0 0 0 []).blt
    (({ b with pixelCount := 0xFFFD } : Blt).pixelCount.toNat + 1 < b.width.toNat) ∧
    (b.width.toNat ≤ ({ b with pixelCount := 0xFFFE } : Blt).pixelCount.toNat + 1 ∧ (0xFFFE : Nat) < 0xFFFF) ∧
    (({ b with scanCount := 0xFFFD } : Blt).scanCount.toNat + 1 < b.height.toNat) ∧
    b.height.toNat ≤ ({ b with scanCount := 0xFFFE } : Blt).scanCount.toNat + 1 := by decide

/-- V1: also a state for the row of each position, the frame and the copy. -/
theorem test_witness_VramTransferRunsEveryPosition_and_Frame :
    let s := setup 4 2 4 4 0x1000 0 0x00 0x0D (cellsFrom 0 oneToEight)
    Starts s 0x02 ∧ s.blt.width ≠ 0 ∧ s.blt.height ≠ 0 ∧ s.blt.mode.getLsbD 2 = false ∧
      (7 < area s.blt) ∧ ∀ k < area s.blt, 0x1008 % s.cfg.vramSize ≠ vramIndex s (destAt s.blt k) := by decide

theorem test_witness_CopyMovesTheRectangle :
    let s := setup 4 2 4 4 0x1000 0 0x00 0x0D (cellsFrom 0 oneToEight)
    Starts s 0x02 ∧ PlainVram s.blt.mode ∧ s.blt.mode.getLsbD 3 = false ∧ s.blt.rop = 0x0D ∧
    ∀ k < area s.blt, ∀ j < k, vramIndex s (destAt s.blt j) ≠ vramIndex s (srcAt s.blt k) ∧
      vramIndex s (destAt s.blt j) ≠ vramIndex s (destAt s.blt k) := by decide

/-- V25 reversed: the destination one row above the source. -/
theorem test_witness_ReverseCopyUpwardIsSafe :
    let s := setup 4 2 4 4 0x20B 0x207 0x01 0x0D (cellsFrom 0x200 oneToEight)
    let (src, dst, pitch, w, h) := ((0x200, 0x204, 4, 4, 2) : Nat × Nat × Nat × Nat × Nat)
    Starts s 0x02 ∧ PlainVram s.blt.mode ∧ s.blt.mode.getLsbD 0 = true ∧ s.blt.mode.getLsbD 3 = false ∧ s.blt.rop = 0x0D ∧
    s.blt.width.toNat = w ∧ s.blt.height.toNat = h ∧ 0 < w ∧ 0 < h ∧
    s.blt.destPitch.toNat = pitch ∧ s.blt.sourcePitch.toNat = pitch ∧ w ≤ pitch ∧
    s.cfg.vramSize ≤ 0x1000000 ∧ src < dst ∧ dst + (h - 1) * pitch + w ≤ s.cfg.vramSize ∧
    s.blt.source.toNat = src + (h - 1) * pitch + (w - 1) ∧ s.blt.dest.toNat = dst + (h - 1) * pitch + (w - 1) := by decide

/-- V9, at the last bytes of VRAM: the destination below the source. -/
theorem test_witness_ForwardCopyDownwardIsSafe :
    let s := setup 8 1 8 8 0x1FFFF6 0x1FFFF8 0x00 0x0D (cellsFrom 0x1FFFF8 oneToEight)
    let (src, dst, pitch, w, h) := ((0x1FFFF8, 0x1FFFF6, 8, 8, 1) : Nat × Nat × Nat × Nat × Nat)
    Starts s 0x02 ∧ PlainVram s.blt.mode ∧ s.blt.mode.getLsbD 0 = false ∧ s.blt.mode.getLsbD 3 = false ∧ s.blt.rop = 0x0D ∧
    s.blt.width.toNat = w ∧ s.blt.height.toNat = h ∧ 0 < w ∧ 0 < h ∧
    s.blt.destPitch.toNat = pitch ∧ s.blt.sourcePitch.toNat = pitch ∧ w ≤ pitch ∧
    s.cfg.vramSize ≤ 0x1000000 ∧ dst ≤ src ∧ src + (h - 1) * pitch + w ≤ s.cfg.vramSize ∧
    s.blt.source.toNat = src ∧ s.blt.dest.toNat = dst := by decide

/-- V5b. -/
theorem test_witness_AllZeroMaskWritesNothing :
    let s := setup 8 1 8 8 0x1000 0 0x08 0x0D (cellsFrom 0x1000 (List.replicate 8 0xEE))
    Starts s 0x02 ∧ s.blt.mode.getLsbD 2 = false ∧ s.blt.mode.getLsbD 3 = true ∧
      s.blt.transColourMask.extractLsb' 0 8 = 0 := by decide

theorem test_witness_DataPortWithoutTransfer :
    opened.blt.fsm ≠ .xferSys ∧ GateShut (protecting .bltData State.reset) .bltData := by decide

/-- V10 in the middle: one byte that is written, and one that is transparent. -/
theorem test_witness_PlainFeedIsOneByteOperation :
    let s := { setup 4 2 4 0 0x1000 0 0x0C 0x59 [] with blt.fsm := .xferSys, blt.transColourMask := 0x00FF }
    s.blt.fsm = .xferSys ∧ GateOpen s .bltData ∧ s.blt.mode.getLsbD 7 = false ∧
      SkippedByKey s.blt 0x00 ∧ ¬ SkippedByKey s.blt 0x01 := by decide

/-- V11: a byte that ends its row, and one that does not. -/
theorem test_witness_ExpandedFeedFillsTheRow :
    v11.blt.fsm = .xferSys ∧ GateOpen v11 .bltData ∧ v11.blt.mode.getLsbD 7 = true ∧
      v11.blt.pixelCount.toNat < v11.blt.width.toNat ∧
      ({ v11 with blt.pixelCount := 1 } : State).blt.pixelCount.toNat + 8 < v11.blt.width.toNat ∧
      SelectedColour v11.rf ((0xC0 : Byte).getLsbD (7 - 0 / 1)) (0 % 1) 0xEE ∧
      SelectedColour v11.rf ((0xC0 : Byte).getLsbD (7 - 2 / 1)) (2 % 1) 0x11 := by decide

/-- V10 against V2: the source bytes in VRAM at address 0, the destination apart. -/
theorem test_witness_SystemTransferEqualsVramTransfer :
    let s := setup 4 2 4 0 0x1000 0 0x04 0x59 (cellsFrom 0 oneToEight)
    let v : State := { s with blt := { s.blt with mode := s.blt.mode &&& 0xBB, source := 0, sourcePitch := s.blt.width } }
    Starts s 0x02 ∧ GateOpen s .bltData ∧ s.blt.width ≠ 0 ∧ s.blt.height ≠ 0 ∧ s.blt.mode.getLsbD 2 = true ∧
    s.blt.mode.getLsbD 7 = false ∧ oneToEight.length = area s.blt ∧
    (∀ k < area s.blt, oneToEight[k]? = some (memRead s (srcAt v.blt k).toNat)) ∧
    ∀ j < area s.blt, ∀ k < area s.blt, vramIndex s (destAt s.blt j) ≠ vramIndex s (srcAt v.blt k) := by decide

theorem test_witness_RasterFunctionTable :
    (∀ code ∈ Config.allRops, code ∈ Config.default.rops) ∧ (0x01 : Byte) ∉ Config.allRops ∧
      (0x59 : Byte) ∉ ([0x0D] : List Byte) := by decide

/-- A VRAM transfer in progress with the given mode, key mask 0xFF00 (whose low byte is 0) and position. -/
def running (mode : Byte) (x y : Word16) : State :=
  { setup 18 9 32 4 0x1000 0x2000 mode 0x59 [(0x2001, 0x80), (0x2009, 0x22), (0x2021, 0x33)] with
    rf.fg0 := 0x34, rf.fg1 := 0x12, rf.bg0 := 0x56, rf.bg1 := 0x78
    blt.fsm := .xferVram, blt.pixelCount := x, blt.scanCount := y, blt.transColourMask := 0xFF00 }

/-- A transfer in progress with an operand of each form, forward and reverse, in the spec's formulas. -/
theorem test_witness_RasterRows_operands : (running 0x00 1 8).blt.fsm = .xferVram ∧
    ReadsOperand (running 0x00 1 8) 0x2021 0x33 ∧ ReadsOperand (running 0x01 1 0) 0x1FFF 0x00 ∧
    ReadsOperand (running 0x80 8 0) 0x2001 0x34 ∧ ReadsOperand (running 0x90 17 0) 0x2001 0x12 ∧
    ReadsOperand (running 0x40 9 9) 0x2009 0x22 ∧ ReadsOperand (running 0x50 17 8) 0x2001 0x80 ∧
    ReadsOperand (running 0xC0 8 1) 0x2001 0x34 ∧ ReadsOperand (running 0xD0 3 1) 0x2001 0x78 :=
  ⟨rfl, And.intro (by decide) (by decide), And.intro (by decide) (by decide), And.intro (by decide) (by decide),
    And.intro (by decide) (by decide), And.intro (by decide) (by decide), And.intro (by decide) (by decide),
    And.intro (by decide) (by decide), And.intro (by decide) (by decide)⟩

/-- The operand skipped by the key, with the mask's low byte 0, and not skipped; codes in the variant's set and outside. -/
theorem test_witness_RasterRows_and_SelectedRow :
    SkippedByKey (running 0x08 1 8).blt 0x33 ∧ ¬ SkippedByKey (running 0x00 1 8).blt 0x33 ∧
    ¬ SkippedByKey { (running 0x08 1 8).blt with transColourMask := 0x0001 } 0x33 ∧
    (0x59 : Byte) ∈ (running 0x00 1 8).cfg.rops ∧ (0xFF : Byte) ∉ Config.allRops := by decide

/-- The gate: a default-protected register, and one that only another table protects. -/
theorem test_witness_LockedChipKeepsProtectedState_gate :
    (writtenRegister (.wBltRop 0x59) = some (.stored .bltRop) ∧ GateShut State.reset (.stored .bltRop)) ∧
    writtenRegister (.wDacData 1) = some .dacData ∧ GateShut (protecting .dacData State.reset) .dacData := by decide

theorem test_witness_LockedChipKeepsProtectedState :
    let s := { v11 with rf.lockReg := 0x00 }
    s.cfg.protectedRegs = Config.defaultProtected ∧ s.rf.lockReg ≠ s.cfg.unlockKey ∧
      ((∀ d, Instr.wBltData 0xC0 ≠ .wSeqLock d) ∧ State.reset.blt.fsm = .idle) :=
  ⟨by decide, by decide, fun _ h => Instr.noConfusion h, rfl⟩

theorem test_witness_OtherTransactionsKeepTheTransfer :
    v11.blt.fsm = .xferSys ∧ ∀ d, Instr.wBltWidthLo 0x01 ≠ .wBltData d :=
  ⟨rfl, fun _ h => Instr.noConfusion h⟩

theorem test_witness_EngineTransitions :
    (∃ t, exec (.wBltStatus 0x02) (setup 4 2 4 0 0x1000 0 0x04 0x59 []) = .next t) ∧
    (setup 4 2 4 0 0x1000 0 0x04 0x59 []).blt.fsm = .idle ∧
    (∃ t, exec (.wBltData 0x01) v11 = .next t) ∧ v11.blt.fsm = .xferSys := ⟨⟨_, rfl⟩, rfl, ⟨_, rfl⟩, rfl⟩

theorem test_witness_InstructionsKeepTracking :
    Tracking v11 ∧ v11.blt.fsm = .xferSys ∧ writesOperand (.wBltData 0xC0) = false ∧ ∃ t, exec (.wBltData 0xC0) v11 = .next t :=
  ⟨fun _ => by decide, rfl, rfl, ⟨_, rfl⟩⟩

/-- A system transfer with a byte pending, and a VRAM byte listed. -/
theorem test_witness_StepKeepsInvariant :
    let s := { v11 with vram := { cells := [(0x1FFFFF, 1)] }, pending := [.txn 0x6100003FC0] }
    Invariant s ∧ ∃ t, step s = .next t :=
  ⟨by constructor <;> decide, ⟨_, rfl⟩⟩

theorem test_witness_DecodeOfEncode : (Instr.wSeqUnassigned 0xFFFFFF 0xFF).wf = true ∧ (Instr.invalidSpace 0x8000000000).wf = true ∧
    (Instr.ropDefault 0xFF).wf = true ∧ (Instr.wSeqCursorX 7 0xFF).wf = true := by decide

theorem test_witness_StepRunsTheInstruction :
    (v11.blt.fsm = .idle ∨ v11.blt.fsm = .xferSys) ∧
    ({ v11 with pending := [.txn 0] } : State).pending = .txn 0 :: [] ∧
    ({ v11 with blt.fsm := .xferVram } : State).blt.fsm = .xferVram ∧
    (∀ rest, v11.pending ≠ .reset :: rest) ∧ v11.pending = [] :=
  ⟨.inr rfl, rfl, rfl, fun _ => (List.cons_ne_nil _ _).symm, rfl⟩

theorem test_witness_FirstObservationsAfterReset : v11.cfg = Config.default ∧ deviceReset v11 = deviceReset v11 := ⟨rfl, rfl⟩

theorem test_witness_DeviceResetStep : ({ v11 with pending := [.reset] } : State).pending = .reset :: [] := rfl

theorem test_witness_StepKeepsParametersAndOrder : ∃ t, step { v11 with pending := [.txn 0x6100003FC0] } = .next t := ⟨_, rfl⟩

theorem test_witness_CursorOverlayPixel :
    let s := { opened with cur := { Cursor.reset with x := 5, y := 6, attr := 1 } }
    (s.cfg.cursorSize = .px32 ∧ cursorSide s.cfg = 32) ∧
    ({ s with cfg.capTable.gd5430.cursorSize := .px64 } : State).cfg.cursorSize = .px64 ∧
    s.cfg.cursorBpp = .one ∧ s.cur.attr.getLsbD 0 = true ∧ opened.cur.attr.getLsbD 0 = false ∧
    ((4 : Int) < s.cur.x.toNat) ∧ ((s.cur.x.toNat : Int) + 32 ≤ 37) := by decide

theorem test_witness_CursorBitmapBase : ∀ size : CursorSize, ∃ s : State,
    s.cfg.cursorSize = size ∧ 0x4000 ≤ s.cfg.vramSize ∧ s.cfg.vramSize = 0x4000 :=
  fun size => ⟨{ opened with cfg := { Config.default with
    capTable := { Config.default.capTable with gd5430 := ⟨[], size⟩ }, vramSize := 0x4000 } }, rfl, Nat.le_refl _, rfl⟩

end Sys2Proof.Tests
end

section
/-! Stepping the machine: what `fetch` and `stepWithout` answer while the engine waits for the host, and the step each
answer of `fetch` gives. -/

namespace Sys2Proof.Machine

/-- While the engine waits for the host, the oldest pending transaction is fetched. -/
theorem fetch_txn {s : State} {w : Txn} {rest : List HostEvent} (hp : s.pending = .txn w :: rest)
    (hf : s.blt.fsm = .idle ∨ s.blt.fsm = .xferSys) : fetch s = some (.txn w, takeEvent rest s) := by
  obtain hf | hf := hf
  · simp [fetch, hp, hf]
  · simp [fetch, hp, hf]

/-- The block fetches nothing of its own while the engine waits for the host (60_exceptions.md, header). -/
theorem fetch_nil {s : State} (hp : s.pending = []) (hf : s.blt.fsm = .idle ∨ s.blt.fsm = .xferSys) :
    fetch s = none := by
  obtain hf | hf := hf
  · simp [fetch, hp, hf]
  · simp [fetch, hp, hf]

/-- Nothing happens by itself while the engine waits for the host (70_reset_and_hazards.md R341). -/
theorem stepWithout_nil {s : State} (hp : s.pending = []) (hf : s.blt.fsm = .idle ∨ s.blt.fsm = .xferSys) :
    stepWithout s = s := by
  obtain hf | hf := hf
  · simp [stepWithout, hp, hf]
  · simp [stepWithout, hp, hf]

/-- A fetched code is decoded and executed in the state it was fetched with. -/
theorem step_of_fetch_some {s t : State} {code : Code} (h : fetch s = some (code, t)) :
    step s = exec (decode code) t := by
  simp [step, h]

/-- Without an instruction, the step is `stepWithout`. -/
theorem step_of_fetch_none {s : State} (h : fetch s = none) : step s = .next (stepWithout s) := by
  simp [step, h]

/-- Settles O54: the three clauses are the three answers of `fetch` that a step can meet with no reset pending and the
engine not ARMED. -/
theorem stepRunsTheInstruction : Obligations.StepRunsTheInstruction := by
  refine ⟨?transaction, ?rasterRow, ?nothingPending⟩
  case transaction =>
    intro s w rest hp hf
    exact step_of_fetch_some (fetch_txn hp hf)
  case rasterRow =>
    intro s hf hp
    exact step_of_fetch_some (fetch_xferVram hf hp)
  case nothingPending =>
    intro s hp hf
    rw [step_of_fetch_none (fetch_nil hp hf), stepWithout_nil hp hf]

end Sys2Proof.Machine
end

section
/-! What an instruction can do to the state, said once: `Effect` lists the state changes there are, `exec_effect` says that
every instruction makes one of them. What every instruction keeps then follows by induction over `Effect`. -/

namespace Sys2Proof.Machine

/-- The state changes that an instruction `i` run in state `s` can make. The DAC accesses and the reads compose: what they do
to one record comes on top of another effect. -/
inductive Effect (i : Instr) (s : State) : State → Prop
  /-- Nothing: a discarded write, a word that is no transaction, a raster-operation row outside a VRAM transfer. -/
  | unchanged : Effect i s s
  /-- A byte returned to the host. -/
  | answers {u : State} (v : Byte) : Effect i s u → Effect i s (answerByte v u)
  /-- A stored-byte register written, with its write mask (40_register_file_bank.md R128). -/
  | stores (r : StoredReg) (d : Byte) (hi : writtenRegister i = some (.stored r)) :
      Effect i s (putStored r (d &&& writeMask r s.cfg) s)
  /-- `SEQ.LOCK` written (40_register_file_bank.md R122). -/
  | setsLock (d : Byte) : Effect i s { s with rf := { s.rf with lockReg := d &&& s.cfg.unlockMask } }
  /-- The cursor moved (42_cursor_overlay.md R190, R192). -/
  | movesCursor (x y : BitVec 11) : Effect i s { s with cur := { s.cur with x := x, y := y } }
  /-- An access of the mask port (41_hidden_dac.md R171). -/
  | advancesPhase : Effect i s (maskAdvance s)
  /-- An access of another DAC port (41_hidden_dac.md R173). -/
  | resetsPhase {u : State} : Effect i s u → Effect i s (phaseReset u)
  /-- The baseline DAC's registers written, or a free byte drawn (41_hidden_dac.md R172, R175..R181). -/
  | changesDac {u : State} (dac : BaseDac) (draws : Nat) : Effect i s u → Effect i s { u with dac := dac, dacDraws := draws }
  /-- A palette component written (41_hidden_dac.md R176, R178). -/
  | writesEntry (sel : DacMode) (idx : Byte) (c : Component) (d : Byte) :
      Effect i s (putEntry sel idx (setComponent c (d &&& s.cfg.dacCompMask) (paletteEntry sel idx s)) s)
  /-- A VRAM byte written through an aperture (40_register_file_bank.md R153, R156). -/
  | writesVram (a : Nat) (v : Byte) : Effect i s (memWrite s a v)
  /-- A transfer started (43_blt_registers.md R230). -/
  | starts (d : Byte) (hi : i = .wBltStatus d) (h : Starts s d) : Effect i s (bltStart s)
  /-- A waiting system transfer fed one byte (43_blt_registers.md R232). -/
  | feeds (d : Byte) (hi : i = .wBltData d) (hf : s.blt.fsm = .xferSys) : Effect i s (sysFeed d s)
  /-- One byte operation of a running VRAM transfer (44_blt_engine.md R253). -/
  | passes (f : Byte → Byte → Byte) (hf : s.blt.fsm = .xferVram) : Effect i s (byteOperation f s)

namespace Effect

variable {i : Instr} {s t : State}

/-- Behind the lock gate an effect takes place or nothing does. -/
theorem of_gated {r : Reg} (h : GateOpen s r → Effect i s t) : Effect i s (gated r s t) := by
  rcases gated_cases r s t with ⟨ho, ht⟩ | ⟨-, -, ht⟩ <;> rw [ht]
  · exact h ho
  · exact .unchanged

theorem of_writeStored (r : StoredReg) (d : Byte) (hi : writtenRegister i = some (.stored r)) :
    Effect i s (writeStored r d s) := by
  rcases writeStored_cases r d s with ⟨-, -, h⟩ | h <;> rw [h]
  · exact .stores r d hi
  · exact .unchanged

theorem of_readStored (r : StoredReg) : Effect i s (readStored r s) := by
  rcases readStored_cases r s with ⟨-, h⟩ | ⟨-, h⟩ <;> rw [h] <;> exact .answers _ .unchanged

theorem of_engineByte (code : Byte) (f : Byte → Byte → Byte) : Effect i s (engineByte code f s) := by
  rcases engineByte_cases code f s with ⟨hf, h⟩ | ⟨-, h⟩ <;> rw [h]
  · exact .passes _ hf
  · exact .unchanged

theorem of_writeComponent (sel : DacMode) (d : Byte) : Effect i s (writeComponent sel d s) :=
  .resetsPhase (.changesDac _ _ (.writesEntry sel _ _ d))

theorem of_readComponent (sel : DacMode) : Effect i s (readComponent sel s) :=
  .answers _ (.resetsPhase (.changesDac _ _ .unchanged))

/-- A write to `BLT.STATUS` past the gate starts a transfer or is discarded. -/
theorem of_statusWrite (d : Byte) (hi : i = .wBltStatus d) (ho : GateOpen s .bltStatus) :
    Effect i s (if statusStart d && !busy s then bltStart s else s) := by
  split
  · next h =>
    obtain ⟨hd, hb⟩ : statusStart d = true ∧ busy s = false := by simpa using h
    exact .starts d hi ⟨ho, hd, by simpa [busy] using hb⟩
  · exact .unchanged

/-- A write to `BLT.DATA` past the gate feeds a waiting transfer or is discarded. -/
theorem of_dataWrite (d : Byte) (hi : i = .wBltData d) : Effect i s (if s.blt.fsm == .xferSys then sysFeed d s else s) := by
  split
  · next h => exact .feeds d hi (by simpa using h)
  · exact .unchanged

end Effect

/-- Every instruction answers a next state, which is one of its effects on the state. -/
theorem exec_effect (i : Instr) (s : State) : ∃ t, exec i s = .next t ∧ Effect i s t := by
  cases i with
  -- the stored-byte registers
  | wSeqExtMode | wSeqScratch1 | wSeqScratch2 | wSeqScratch3 | wSeqCursorAttr | wSeqCursorAddr
  | wSeqVclkNum0 | wSeqVclkNum1 | wSeqVclkNum2 | wSeqVclkNum3
  | wSeqVclkDenom0 | wSeqVclkDenom1 | wSeqVclkDenom2 | wSeqVclkDenom3
  | wGcBg0 | wGcFg0 | wGcModeExt | wGcBg1 | wGcFg1 | wCrtcExt19 | wCrtcExt1A | wCrtcExt1B | wBankRd | wBankWr
  | wBltWidthLo | wBltWidthHi | wBltHeightLo | wBltHeightHi | wBltDpitchLo | wBltDpitchHi | wBltSpitchLo | wBltSpitchHi
  | wBltDest0 | wBltDest1 | wBltDest2 | wBltSrc0 | wBltSrc1 | wBltSrc2
  | wBltMode | wBltRop | wBltTcolLo | wBltTcolHi | wBltTmaskLo | wBltTmaskHi =>
    exact ⟨_, rfl, .of_writeStored _ _ rfl⟩
  | rSeqExtMode | rSeqScratch1 | rSeqScratch2 | rSeqScratch3 | rSeqCursorAttr | rSeqCursorAddr
  | rSeqVclkNum0 | rSeqVclkNum1 | rSeqVclkNum2 | rSeqVclkNum3
  | rSeqVclkDenom0 | rSeqVclkDenom1 | rSeqVclkDenom2 | rSeqVclkDenom3
  | rGcBg0 | rGcFg0 | rGcModeExt | rGcBg1 | rGcFg1 | rCrtcExt19 | rCrtcExt1A | rCrtcExt1B | rBankRd | rBankWr
  | rBltWidthLo | rBltWidthHi | rBltHeightLo | rBltHeightHi | rBltDpitchLo | rBltDpitchHi | rBltSpitchLo | rBltSpitchHi
  | rBltDest0 | rBltDest1 | rBltDest2 | rBltSrc0 | rBltSrc1 | rBltSrc2
  | rBltMode | rBltRop | rBltTcolLo | rBltTcolHi | rBltTmaskLo | rBltTmaskHi =>
    exact ⟨_, rfl, .of_readStored _⟩
  -- the other registers
  | wSeqLock => exact ⟨_, rfl, .of_gated fun _ => .setsLock _⟩
  | wSeqCursorX | wSeqCursorY => exact ⟨_, rfl, .of_gated fun _ => .movesCursor _ _⟩
  | wBltStatus d => exact ⟨_, rfl, .of_gated (.of_statusWrite d rfl)⟩
  | wBltData d => exact ⟨_, rfl, .of_gated fun _ => .of_dataWrite d rfl⟩
  -- the DAC ports
  | wDacMask => exact ⟨_, rfl, .of_gated fun _ => .changesDac _ _ .advancesPhase⟩
  | rDacMask => exact ⟨_, rfl, .answers _ .advancesPhase⟩
  | wDacIndexR | wDacIndexW => exact ⟨_, rfl, .of_gated fun _ => .resetsPhase (.changesDac _ _ .unchanged)⟩
  | rDacIndexR => exact ⟨_, rfl, .answers _ (.resetsPhase (.changesDac _ _ .unchanged))⟩
  | wDacData | wDacOverlay => exact ⟨_, rfl, .of_gated fun _ => .of_writeComponent _ _⟩
  | rDacData | rDacOverlay => exact ⟨_, rfl, .of_readComponent _⟩
  | wDacUnassigned => exact ⟨_, rfl, .resetsPhase .unchanged⟩
  | rDacIndexW | rDacUnassigned => exact ⟨_, rfl, .answers _ (.resetsPhase .unchanged)⟩
  -- the apertures
  | wMem | wLfb => exact ⟨_, rfl, .writesVram _ _⟩
  -- the reads that change nothing else
  | rSeqLock | rSeqCursorX | rSeqCursorY | rCrtcId | rBltStatus | rBltData | rMem | rLfb
  | rSeqUnassigned | rGcUnassigned | rCrtcUnassigned | rBltUnassigned | rBankUnassigned =>
    exact ⟨_, rfl, .answers _ .unchanged⟩
  -- the words without effect
  | wCrtcId | wSeqUnassigned | wGcUnassigned | wCrtcUnassigned | wBltUnassigned | wBankUnassigned
  | invalidSpace | invalidBit33 | invalidBit34 | invalidBit35 =>
    exact ⟨_, rfl, .unchanged⟩
  -- the raster-operation rows
  | ropZero | ropAnd | ropNop | ropSrcAndNotDst | ropNotDst | ropCopy | ropOne | ropNotSrcAndDst
  | ropXor | ropOr | ropNor | ropXnor | ropSrcOrNotDst | ropNotSrc | ropNotSrcOrDst | ropNand | ropDefault =>
    exact ⟨_, rfl, .of_engineByte _ _⟩

/-- What an instruction answers is one of its effects. -/
theorem Effect.of_exec {i : Instr} {s t : State} (h : exec i s = .next t) : Effect i s t := by
  obtain ⟨t', ht', he⟩ := exec_effect i s
  obtain rfl : t' = t := by simpa [ht'] using h
  exact he

end Sys2Proof.Machine
end

section
/-! Everything a step can do, and what every step leaves alone: the parameters and the order of the pending events. -/

namespace Sys2Proof.Machine

/-- With no reset pending, the engine leaves ARMED. -/
theorem stepWithout_armed {s : State} (hf : s.blt.fsm = .armed) (hp : ∀ rest, s.pending ≠ .reset :: rest) :
    stepWithout s = leaveArmed s := by
  unfold stepWithout
  split <;> simp_all

/-- Everything a step can do: reset the device, leave ARMED, run the selected raster-operation row, run the oldest
transaction, or nothing. -/
theorem step_cases (s : State) :
    (∃ rest, s.pending = .reset :: rest ∧ step s = .next (deviceReset (takeEvent rest s))) ∨
    (s.blt.fsm = .armed ∧ step s = .next (leaveArmed s)) ∨
    (s.blt.fsm = .xferVram ∧ step s = exec (decode (.rop s.blt.rop)) s) ∨
    (∃ w rest, s.pending = .txn w :: rest ∧ step s = exec (decode (.txn w)) (takeEvent rest s)) ∨
    step s = .next s := by
  by_cases hr : ∃ rest, s.pending = .reset :: rest
  · obtain ⟨rest, hp⟩ := hr
    exact .inl ⟨rest, hp, by rw [step_of_fetch_none (fetch_reset hp), stepWithout_reset hp]⟩
  · have hr : ∀ rest, s.pending ≠ .reset :: rest := not_exists.mp hr
    by_cases ha : s.blt.fsm = .armed
    · exact .inr (.inl ⟨ha, by rw [step_of_fetch_none (fetch_armed ha), stepWithout_armed ha hr]⟩)
    by_cases hx : s.blt.fsm = .xferVram
    · exact .inr (.inr (.inl ⟨hx, step_of_fetch_some (fetch_xferVram hx hr)⟩))
    have hf : s.blt.fsm = .idle ∨ s.blt.fsm = .xferSys := by cases h : s.blt.fsm <;> simp_all
    cases hp : s.pending with
    | nil => exact .inr (.inr (.inr (.inr (by rw [step_of_fetch_none (fetch_nil hp hf), stepWithout_nil hp hf]))))
    | cons e rest =>
      cases e with
      | reset => exact absurd hp (hr rest)
      | txn w => exact .inr (.inr (.inr (.inl ⟨w, rest, rfl, step_of_fetch_some (fetch_txn hp hf)⟩)))

theorem maskAdvance_cfg_pending (s : State) : (maskAdvance s).cfg = s.cfg ∧ (maskAdvance s).pending = s.pending := by
  rcases maskAdvance_cases s with ⟨-, h⟩ | ⟨-, h⟩ <;> rw [h] <;> exact ⟨rfl, rfl⟩

/-- No effect of an instruction reaches the parameters or the pending events. -/
theorem Effect.cfg_pending {i : Instr} {s t : State} (h : Effect i s t) : t.cfg = s.cfg ∧ t.pending = s.pending := by
  induction h with
  | unchanged => exact ⟨rfl, rfl⟩
  | answers _ _ ih | resetsPhase _ ih | changesDac _ _ _ ih => exact ih
  | setsLock | movesCursor | writesVram => exact ⟨rfl, rfl⟩
  | stores => exact ⟨putStored_cfg .., putStored_pending ..⟩
  | writesEntry => exact ⟨putEntry_cfg .., putEntry_pending ..⟩
  | advancesPhase => exact maskAdvance_cfg_pending s
  | starts => rw [bltStart_frame]; exact ⟨rfl, rfl⟩
  | feeds => rw [sysFeed_frame]; exact ⟨rfl, rfl⟩
  | passes => rw [byteOperation_frame]; exact ⟨rfl, rfl⟩

/-- Settles O58: no effect of an instruction reaches the parameters or the queue, so only the step's own taking of the oldest
event changes the queue. -/
theorem stepKeepsParametersAndOrder : Obligations.StepKeepsParametersAndOrder := by
  intro s t hstep
  rcases step_cases s with ⟨rest, hp, h⟩ | ⟨-, h⟩ | ⟨-, h⟩ | ⟨w, rest, hp, h⟩ | h <;> rw [h] at hstep
  · cases hstep
    exact ⟨rfl, .inr ⟨.reset, hp⟩⟩
  · cases hstep
    rw [leaveArmed_frame]
    exact ⟨rfl, .inl rfl⟩
  · obtain ⟨hc, hq⟩ := (Effect.of_exec hstep).cfg_pending
    exact ⟨hc, .inl hq⟩
  · obtain ⟨hc, hq⟩ := (Effect.of_exec hstep).cfg_pending
    exact ⟨hc, .inr ⟨.txn w, by rw [hq, takeEvent_pending, hp]⟩⟩
  · cases hstep
    exact ⟨rfl, .inl rfl⟩

end Sys2Proof.Machine
end

section
/-! A system transfer is where its counts say: the advance and the start of a transfer keep `Tracking`, and nothing but an
operand write touches the record otherwise. -/

namespace Sys2Proof.Machine

/-- `Tracking` speaks of the engine's record alone. -/
theorem Tracking.of_blt_eq {s t : State} (hb : t.blt = s.blt) (h : Tracking s) : Tracking t := by
  unfold Tracking
  rw [hb]
  exact h

theorem tracking_of_ne_xferSys {s : State} (h : s.blt.fsm ≠ .xferSys) : Tracking s := fun hf => absurd hf h

/-- A count below a 16-bit bound does not wrap when it is incremented. -/
theorem toNat_succ_of_lt {x w : Word16} (h : x.toNat < w.toNat) : (x + 1).toNat = x.toNat + 1 := by
  bv_omega

theorem toNat_pos_of_ne_zero {v : Word16} (h : v ≠ 0) : 0 < v.toNat := by
  bv_omega

/-- `DestAddr` moves by one byte in the transfer's direction with the position. -/
theorem destAddr_succ (b : Blt) (y x : Nat) : offsetAddr (destAddr b y x) (dirOf b.mode) = destAddr b y (x + 1) := by
  unfold destAddr
  rw [offsetAddr_offsetAddr]
  congr 1
  push_cast
  ring

theorem destAddr_row_start (b : Blt) (y : Nat) :
    destAddr b y 0 = offsetAddr b.dest (dirOf b.mode * ((y * b.destPitch.toNat : Nat) : Int)) := rfl

/-- The advance goes to the next position of the row, to the start of the next row, or ends the transfer. -/
theorem advance_tracking {s : State} (h : Tracking s) : Tracking (advance s) := by
  intro hf
  rw [advance_blt] at hf ⊢
  rcases advanceBlt_cases s.blt with ⟨hx, ha⟩ | ⟨-, hy, ha⟩ | ⟨-, -, ha⟩ <;> rw [ha] at hf ⊢
  · obtain ⟨hpx, hsc, hdest⟩ := h hf
    refine ⟨hx, hsc, ?_⟩
    change offsetAddr s.blt.destCurrent _ = destAddr s.blt _ (s.blt.pixelCount + 1).toNat
    rw [hdest, destAddr_succ, toNat_succ_of_lt hpx]
  · obtain ⟨hpx, -, -⟩ := h hf
    exact ⟨Nat.zero_lt_of_lt hpx, hy, (destAddr_row_start s.blt _).symm⟩
  · cases hf

theorem commit_tracking (f : Byte → Byte → Byte) (sb : Byte) {s : State} (h : Tracking s) : Tracking (commit f sb s) :=
  h.of_blt_eq (commit_blt f sb s)

theorem expandFeed_tracking (b : Byte) (y0 : Word16) (fuel n : Nat) {s : State} (h : Tracking s) :
    Tracking (expandFeed b y0 fuel n s) := by
  induction fuel generalizing n s with
  | zero => exact h
  | succ fuel ih =>
    unfold expandFeed
    dsimp only
    split
    · exact ih _ (advance_tracking (commit_tracking _ _ h))
    · exact h

/-- The state in which a fed byte is staged (44_blt_engine.md R266). -/
def stageByte (b : Byte) (s : State) : State :=
  { s with blt := { s.blt with systemBuffer := b.setWidth 32, systemCount := 1 } }

/-- Everything a feed can do: colour expansion or one byte operation on the staged byte, which is then no longer counted. -/
theorem sysFeed_cases (b : Byte) (s : State) :
    ∃ fed : State, sysFeed b s = { fed with blt := { fed.blt with systemCount := 0 } } ∧
      ((modeExpand s.blt.mode = true ∧ fed = expandFeed b s.blt.scanCount 16 0 (stageByte b s)) ∨
       (modeExpand s.blt.mode = false ∧ fed = advance (commit (liveRaster s) b (stageByte b s)))) := by
  refine ⟨_, rfl, ?_⟩
  dsimp only
  split
  · next h => exact .inl ⟨h, rfl⟩
  · next h => exact .inr ⟨Bool.eq_false_iff.mpr h, rfl⟩

/-- Feeding a byte keeps the tracking: the staged byte is no part of it. -/
theorem sysFeed_tracking (b : Byte) {s : State} (h : Tracking s) : Tracking (sysFeed b s) := by
  have hstaged : Tracking (stageByte b s) := h
  obtain ⟨fed, he, hfed⟩ := sysFeed_cases b s
  have htrack : Tracking fed := by
    rcases hfed with ⟨-, rfl⟩ | ⟨-, rfl⟩
    · exact expandFeed_tracking _ _ _ _ hstaged
    · exact advance_tracking (commit_tracking _ _ hstaged)
  rw [he]
  exact htrack

/-- A byte operation goes on in the same state of the engine or ends the transfer. -/
theorem byteOperation_fsm (f : Byte → Byte → Byte) (s : State) :
    (byteOperation f s).blt.fsm = s.blt.fsm ∨ (byteOperation f s).blt.fsm = .idle := by
  rw [byteOperation_blt]
  exact advanceBlt_fsm _

/-- The loop of `RunVram` never turns into a system transfer. -/
theorem runVram_fsm_ne_xferSys (n : Nat) {s : State} (h : s.blt.fsm ≠ .xferSys) : (runVram n s).blt.fsm ≠ .xferSys := by
  induction n generalizing s with
  | zero => exact h
  | succ n ih =>
    by_cases hx : s.blt.fsm = .xferVram
    · rw [runVram_succ n hx]
      apply ih
      rcases byteOperation_fsm (liveRaster s) s with hf | hf <;> simp [hf, hx]
    · rwa [runVram_done _ hx]

/-- A transfer starts at row 0, position 0 of an extent that is not degenerate. -/
theorem bltStart_tracking (s : State) : Tracking (bltStart s) := by
  unfold bltStart
  rcases leaveArmed_cases { s with blt := armBlt s.blt } with ⟨-, h⟩ | ⟨hw, hh, -, h⟩ | ⟨-, -, -, h⟩ <;> rw [h]
  · exact tracking_of_ne_xferSys (by simp)
  · intro _
    refine ⟨toNat_pos_of_ne_zero hw, toNat_pos_of_ne_zero hh, ?_⟩
    change s.blt.dest = offsetAddr s.blt.dest (dirOf s.blt.mode * ((0 * s.blt.destPitch.toNat + 0 : Nat) : Int))
    simp
  · exact tracking_of_ne_xferSys (runVram_fsm_ne_xferSys _ (by simp))

/-- The stored-byte registers that are not BLT operands are not in the engine's record: of the instructions, those that write
an operand and those that write no stored byte are excluded by the hypotheses. -/
theorem putStored_blt_of_not_writesOperand {i : Instr} {r : StoredReg} (v : Byte) (s : State)
    (hi : writtenRegister i = some (.stored r)) (ho : writesOperand i = false) : (putStored r v s).blt = s.blt := by
  cases i <;> cases ho <;> cases hi <;> rfl

theorem maskAdvance_blt (s : State) : (maskAdvance s).blt = s.blt := by
  rcases maskAdvance_cases s with ⟨-, h⟩ | ⟨-, h⟩ <;> rw [h]

/-- A system transfer stays where its counts say under every effect of an instruction that writes no operand. -/
theorem Effect.tracking {i : Instr} {s t : State} (h : Effect i s t) (ho : writesOperand i = false) (hs : Tracking s) :
    Tracking t := by
  induction h with
  | unchanged => exact hs
  | answers _ _ ih | resetsPhase _ ih | changesDac _ _ _ ih => exact ih.of_blt_eq rfl
  | setsLock | movesCursor | writesVram => exact hs.of_blt_eq rfl
  | stores r d hi => exact hs.of_blt_eq (putStored_blt_of_not_writesOperand _ s hi ho)
  | writesEntry => exact hs.of_blt_eq (putEntry_blt ..)
  | advancesPhase => exact hs.of_blt_eq (maskAdvance_blt s)
  | starts => exact bltStart_tracking s
  | feeds d => exact sysFeed_tracking d hs
  | passes f hf =>
    refine tracking_of_ne_xferSys ?_
    rcases byteOperation_fsm f s with h | h <;> simp [h, hf]

/-- Settles O48: the engine's record changes only by a start, a feed or a pass, and each keeps the tracking. -/
theorem instructionsKeepTracking : Obligations.InstructionsKeepTracking :=
  fun _ _ _ hs ho hexec => (Effect.of_exec hexec).tracking ho hs

end Sys2Proof.Machine
end

section
/-! What the engine keeps: a transfer in progress changes no operand register and stages nothing, and the loop of `RunVram`
is over after as many passes as the extent has positions. -/

namespace Sys2Proof.Machine

/-- Only the progress of a transfer differs: the engine's state, the current addresses and the counts (10_state.md R40, R42,
R43). -/
def OnlyProgress (b b' : Blt) : Prop :=
  b' = { b with
    fsm := b'.fsm, sourceCurrent := b'.sourceCurrent, destCurrent := b'.destCurrent
    pixelCount := b'.pixelCount, scanCount := b'.scanCount }

theorem OnlyProgress.refl (b : Blt) : OnlyProgress b b := rfl

theorem OnlyProgress.trans {b c d : Blt} (h₁ : OnlyProgress b c) (h₂ : OnlyProgress c d) : OnlyProgress b d :=
  Eq.trans h₂ (by rw [h₁])

theorem advanceBlt_onlyProgress (b : Blt) : OnlyProgress b (advanceBlt b) := by
  unfold OnlyProgress
  rw [advanceBlt_frame]

theorem byteOperation_onlyProgress (f : Byte → Byte → Byte) (s : State) : OnlyProgress s.blt (byteOperation f s).blt := by
  rw [byteOperation_blt]
  exact .trans (c := { s.blt with sourceCurrent := sourceAddress s }) rfl (advanceBlt_onlyProgress _)

theorem runVram_onlyProgress (n : Nat) (s : State) : OnlyProgress s.blt (runVram n s).blt := by
  induction n generalizing s with
  | zero => exact .refl _
  | succ n ih =>
    by_cases hx : s.blt.fsm = .xferVram
    · rw [runVram_succ n hx]
      exact (byteOperation_onlyProgress _ s).trans (ih _)
    · rw [runVram_done _ hx]
      exact .refl _

theorem expandFeed_onlyProgress (b : Byte) (y0 : Word16) (fuel n : Nat) (s : State) :
    OnlyProgress s.blt (expandFeed b y0 fuel n s).blt := by
  induction fuel generalizing n s with
  | zero => exact .refl _
  | succ fuel ih =>
    unfold expandFeed
    dsimp only
    split
    · refine .trans ?_ (ih _ _)
      rw [advance_blt, commit_blt]
      exact advanceBlt_onlyProgress _
    · exact .refl _

/-- The current position lies in the extent (10_state.md R45(b)). -/
def InExtent (b : Blt) : Prop := b.pixelCount.toNat < b.width.toNat ∧ b.scanCount.toNat < b.height.toNat

/-- The number of positions before the current one, row by row. -/
def position (b : Blt) : Nat := b.scanCount.toNat * b.width.toNat + b.pixelCount.toNat

theorem position_lt_area {b : Blt} (h : InExtent b) : position b < area b := by
  obtain ⟨hx, hy⟩ := h
  have hrows : (b.scanCount.toNat + 1) * b.width.toNat ≤ b.height.toNat * b.width.toNat := Nat.mul_le_mul_right _ hy
  rw [Nat.succ_mul, Nat.mul_comm b.height.toNat] at hrows
  unfold position area
  omega

/-- Inside the extent the advance ends the transfer or goes to the next position inside it. -/
theorem advanceBlt_inExtent {b : Blt} (h : InExtent b) :
    (advanceBlt b).fsm = .idle ∨
    ((advanceBlt b).fsm = b.fsm ∧ InExtent (advanceBlt b) ∧ area (advanceBlt b) = area b ∧
      position (advanceBlt b) = position b + 1) := by
  obtain ⟨hx, hy⟩ := h
  have hpixel := toNat_succ_of_lt hx
  have hscan := toNat_succ_of_lt hy
  rcases advanceBlt_cases b with ⟨hx', ha⟩ | ⟨hrowEnd, hy', ha⟩ | ⟨-, -, ha⟩ <;> rw [ha]
  case inl =>
    refine .inr ⟨rfl, ⟨hx', hy⟩, rfl, ?_⟩
    simp only [position, hpixel]
    omega
  case inr.inl =>
    refine .inr ⟨rfl, ⟨Nat.zero_lt_of_lt hx, hy'⟩, rfl, ?_⟩
    have hzero : (0 : Word16).toNat = 0 := rfl
    simp only [position, hscan, hzero, Nat.succ_mul]
    omega
  case inr.inr => exact .inl rfl

/-- From a position inside the extent, as many passes as there are positions left end the transfer. -/
theorem runVram_idle (n : Nat) {s : State} (hf : s.blt.fsm = .xferVram) (he : InExtent s.blt)
    (hn : area s.blt ≤ n + position s.blt) : (runVram n s).blt.fsm = .idle := by
  induction n generalizing s with
  | zero =>
    have := position_lt_area he
    omega
  | succ n ih =>
    rw [runVram_succ n hf]
    have hblt := byteOperation_blt (liveRaster s) s
    have he' : InExtent { s.blt with sourceCurrent := sourceAddress s } := he
    rcases advanceBlt_inExtent he' with hidle | ⟨hf', hin, harea, hpos⟩
    · rw [← hblt] at hidle
      rwa [runVram_done _ (by simp [hidle])]
    · rw [← hblt] at hf' hin harea hpos
      refine ih (hf'.trans hf) hin ?_
      rw [harea, hpos]
      change area s.blt ≤ n + (position s.blt + 1)
      omega

/-- Outside an instruction a started transfer waits for the host or is over. -/
theorem bltStart_fsm (s : State) : (bltStart s).blt.fsm = .idle ∨ (bltStart s).blt.fsm = .xferSys := by
  unfold bltStart
  rcases leaveArmed_cases { s with blt := armBlt s.blt } with ⟨-, h⟩ | ⟨-, -, -, h⟩ | ⟨hw, hh, -, h⟩ <;> rw [h]
  · exact .inl rfl
  · exact .inr rfl
  · have hin : InExtent (armBlt s.blt) := ⟨toNat_pos_of_ne_zero hw, toNat_pos_of_ne_zero hh⟩
    exact .inl (runVram_idle _ rfl hin (Nat.le_add_right _ _))

/-- The start of a transfer clears the staging and changes no operand register. -/
theorem bltStart_onlyProgress (s : State) : OnlyProgress (armBlt s.blt) (bltStart s).blt := by
  unfold bltStart
  rcases leaveArmed_cases { s with blt := armBlt s.blt } with ⟨-, h⟩ | ⟨-, -, -, h⟩ | ⟨-, -, -, h⟩ <;> rw [h]
  · rfl
  · rfl
  · exact .trans (c := { armBlt s.blt with fsm := .xferVram }) rfl (runVram_onlyProgress _ _)

theorem bltStart_wf {s : State} (hs : 0 < s.cfg.vramSize) (h : s.vram.wf s.cfg.vramSize = true) :
    (bltStart s).vram.wf s.cfg.vramSize = true := by
  unfold bltStart
  rcases leaveArmed_cases { s with blt := armBlt s.blt } with ⟨-, he⟩ | ⟨-, -, -, he⟩ | ⟨-, -, -, he⟩ <;> rw [he]
  · exact h
  · exact h
  · exact runVram_wf _ (s := { s with blt := { armBlt s.blt with fsm := .xferVram } }) hs h

/-! ### The feed of a byte -/

theorem advance_commit_fsm (f : Byte → Byte → Byte) (sb : Byte) {s : State} (h : s.blt.fsm = .idle ∨ s.blt.fsm = .xferSys) :
    (advance (commit f sb s)).blt.fsm = .idle ∨ (advance (commit f sb s)).blt.fsm = .xferSys := by
  rw [advance_blt, commit_blt]
  rcases advanceBlt_fsm s.blt with ha | ha <;> rw [ha]
  · exact h
  · exact .inl rfl

theorem expandFeed_fsm (b : Byte) (y0 : Word16) (fuel n : Nat) {s : State} (h : s.blt.fsm = .idle ∨ s.blt.fsm = .xferSys) :
    (expandFeed b y0 fuel n s).blt.fsm = .idle ∨ (expandFeed b y0 fuel n s).blt.fsm = .xferSys := by
  induction fuel generalizing n s with
  | zero => exact h
  | succ fuel ih =>
    unfold expandFeed
    dsimp only
    split
    · exact ih _ (advance_commit_fsm _ _ h)
    · exact h

theorem expandFeed_wf (b : Byte) (y0 : Word16) (fuel n : Nat) {s : State} (hs : 0 < s.cfg.vramSize)
    (h : s.vram.wf s.cfg.vramSize = true) : (expandFeed b y0 fuel n s).vram.wf s.cfg.vramSize = true := by
  induction fuel generalizing n s with
  | zero => exact h
  | succ fuel ih =>
    unfold expandFeed
    dsimp only
    split
    · simpa using ih _ (s := advance (commit _ _ s)) (by simpa using hs) (by simpa using commit_wf _ _ hs h)
    · exact h

/-- A byte's feed changes no operand register; the byte stays in the buffer, uncounted. -/
theorem sysFeed_onlyProgress (b : Byte) (s : State) :
    OnlyProgress { s.blt with systemBuffer := b.setWidth 32, systemCount := 0 } (sysFeed b s).blt := by
  obtain ⟨fed, he, hfed⟩ := sysFeed_cases b s
  have hprogress : OnlyProgress (stageByte b s).blt fed.blt := by
    rcases hfed with ⟨-, rfl⟩ | ⟨-, rfl⟩
    · exact expandFeed_onlyProgress ..
    · rw [advance_blt, commit_blt]
      exact advanceBlt_onlyProgress _
  unfold OnlyProgress at hprogress
  rw [he, hprogress]
  rfl

theorem sysFeed_fsm (b : Byte) {s : State} (h : s.blt.fsm = .idle ∨ s.blt.fsm = .xferSys) :
    (sysFeed b s).blt.fsm = .idle ∨ (sysFeed b s).blt.fsm = .xferSys := by
  obtain ⟨fed, he, hfed⟩ := sysFeed_cases b s
  rw [he]
  rcases hfed with ⟨-, rfl⟩ | ⟨-, rfl⟩
  · exact expandFeed_fsm _ _ _ _ (s := stageByte b s) h
  · exact advance_commit_fsm _ _ (s := stageByte b s) h

theorem sysFeed_wf (b : Byte) {s : State} (hs : 0 < s.cfg.vramSize) (h : s.vram.wf s.cfg.vramSize = true) :
    (sysFeed b s).vram.wf s.cfg.vramSize = true := by
  obtain ⟨fed, he, hfed⟩ := sysFeed_cases b s
  rw [he]
  rcases hfed with ⟨-, rfl⟩ | ⟨-, rfl⟩
  · exact expandFeed_wf _ _ _ _ (s := stageByte b s) hs h
  · exact commit_wf _ _ (s := stageByte b s) hs h

end Sys2Proof.Machine
end

section
/-! The invariant of states between transactions: every effect of an instruction keeps it, taking an event and resetting the
device keep it, and the machine after power-on has it. -/

namespace Sys2Proof.Machine

/-! ### Masks -/

theorem within_iff {n : Nat} (v mask : BitVec n) : Within v mask ↔ ∀ k, v.getLsbD k = true → mask.getLsbD k = true := by
  constructor
  · intro h k hk
    have hbit := congrArg (BitVec.getLsbD · k) h
    have hlt := BitVec.lt_of_getLsbD hk
    simpa [hk, hlt] using hbit
  · intro h
    refine BitVec.eq_of_getLsbD_eq fun k hk => ?_
    have := h k
    cases hv : v.getLsbD k <;> simp_all

/-- A masked value is within its mask. -/
theorem within_and {n : Nat} (d mask : BitVec n) : Within (d &&& mask) mask := by
  simp [within_iff]

theorem within_zero {n : Nat} (mask : BitVec n) : Within 0 mask := by
  simp [within_iff]

/-- Two parts within the parts of a mask make a whole within the whole. -/
theorem within_append {m n : Nat} {v p : BitVec m} {w q : BitVec n} (hv : Within v p) (hw : Within w q) :
    Within (v ++ w) (p ++ q) := by
  rw [within_iff] at *
  intro k
  simp only [BitVec.getLsbD_append]
  split
  · exact hw k
  · exact hv _

/-- A slice of a value is within the slice of its mask. -/
theorem within_extract {n : Nat} {v mask : BitVec n} (start len : Nat) (h : Within v mask) :
    Within (v.extractLsb' start len) (mask.extractLsb' start len) := by
  rw [within_iff] at *
  intro k
  simp only [BitVec.getLsbD_extractLsb', Bool.and_eq_true, decide_eq_true_eq]
  exact fun ⟨hk, hv⟩ => ⟨hk, h _ hv⟩

theorem addrBytes_append (a : Addr) : addrByte2 a ++ addrByte1 a ++ addrByte0 a = a := by
  refine BitVec.eq_of_getLsbD_eq fun k hk => ?_
  simp only [addrByte2, addrByte1, addrByte0, BitVec.getLsbD_append, BitVec.getLsbD_extractLsb']
  by_cases h0 : k < 8
  · simp [h0]
  · by_cases h1 : k - 8 < 8
    · simp [h0, h1, show 8 + (k - 8) = k by omega]
    · simp [h0, h1, show 16 + (k - 8 - 8) = k by omega, show k - 8 - 8 < 8 by omega]

section
variable {v mask : Word16}

theorem within_setLowByte (d : Byte) (h : Within v mask) : Within (setLowByte v (d &&& lowByte mask)) mask := by
  have := within_append (within_extract 8 8 h) (within_and d (lowByte mask))
  rwa [← highByte, ← highByte, highByte_append_lowByte] at this

theorem within_setHighByte (d : Byte) (h : Within v mask) : Within (setHighByte v (d &&& highByte mask)) mask := by
  have := within_append (within_and d (highByte mask)) (within_extract 0 8 h)
  rwa [← lowByte, ← lowByte, highByte_append_lowByte] at this
end

section
variable {a mask : Addr}

theorem within_setAddrByte0 (d : Byte) (h : Within a mask) : Within (setAddrByte0 a (d &&& addrByte0 mask)) mask := by
  have := within_append (within_append (within_extract 16 8 h) (within_extract 8 8 h)) (within_and d (addrByte0 mask))
  rwa [← addrByte2, ← addrByte2, ← addrByte1, ← addrByte1, addrBytes_append] at this

theorem within_setAddrByte1 (d : Byte) (h : Within a mask) : Within (setAddrByte1 a (d &&& addrByte1 mask)) mask := by
  have := within_append (within_append (within_extract 16 8 h) (within_and d (addrByte1 mask))) (within_extract 0 8 h)
  rwa [← addrByte2, ← addrByte2, ← addrByte0, ← addrByte0, addrBytes_append] at this

theorem within_setAddrByte2 (d : Byte) (h : Within a mask) : Within (setAddrByte2 a (d &&& addrByte2 mask)) mask := by
  have := within_append (within_append (within_and d (addrByte2 mask)) (within_extract 8 8 h)) (within_extract 0 8 h)
  rwa [← addrByte1, ← addrByte1, ← addrByte0, ← addrByte0, addrBytes_append] at this
end

theorem rgbWithin_setComponent (c : Component) (d : Byte) {e : Rgb} {mask : Byte} (h : RgbWithin e mask) :
    RgbWithin (setComponent c (d &&& mask) e) mask := by
  obtain ⟨hr, hg, hb⟩ := h
  cases c with
  | red => exact ⟨within_and .., hg, hb⟩
  | green => exact ⟨hr, within_and .., hb⟩
  | blue => exact ⟨hr, hg, within_and ..⟩

/-! ### The effects of an instruction -/

theorem config_wf_iff (c : Config) : c.wf = true ↔ 0 < c.vramSize ∧ 0 < c.hdacCycle ∧ .seqLock ∉ c.protectedRegs := by
  simp [Config.wf, and_assoc]

namespace Invariant

variable {s : State}

theorem vramSize_pos (h : Invariant s) : 0 < s.cfg.vramSize := ((config_wf_iff _).mp h.cfgWf).1

theorem hdacCycle_pos (h : Invariant s) : 0 < s.cfg.hdacCycle := ((config_wf_iff _).mp h.cfgWf).2.1

/-- Only the lists, the extents, the pitches and the addresses have a clause in the invariant: a list keeps its length, a
masked byte keeps the rest within its mask. -/
theorem putStored (h : Invariant s) (r : StoredReg) (d : Byte) : Invariant (putStored r (d &&& writeMask r s.cfg) s) := by
  obtain ⟨hdpitch, hspitch⟩ := h.pitchesMasked
  obtain ⟨hdest, hsource⟩ := h.addressesMasked
  cases r with
  | seqScratch1 | seqScratch2 | seqScratch3 | seqVclkNum0 | seqVclkNum1 | seqVclkNum2 | seqVclkNum3
  | seqVclkDenom0 | seqVclkDenom1 | seqVclkDenom2 | seqVclkDenom3 =>
    exact { h with registerCounts := by simpa [Machine.putStored] using h.registerCounts }
  | bltWidthLo => exact { h with widthMasked := within_setLowByte d h.widthMasked }
  | bltWidthHi => exact { h with widthMasked := within_setHighByte d h.widthMasked }
  | bltHeightLo => exact { h with heightMasked := within_setLowByte d h.heightMasked }
  | bltHeightHi => exact { h with heightMasked := within_setHighByte d h.heightMasked }
  | bltDpitchLo => exact { h with pitchesMasked := ⟨within_setLowByte d hdpitch, hspitch⟩ }
  | bltDpitchHi => exact { h with pitchesMasked := ⟨within_setHighByte d hdpitch, hspitch⟩ }
  | bltSpitchLo => exact { h with pitchesMasked := ⟨hdpitch, within_setLowByte d hspitch⟩ }
  | bltSpitchHi => exact { h with pitchesMasked := ⟨hdpitch, within_setHighByte d hspitch⟩ }
  | bltDest0 => exact { h with addressesMasked := ⟨within_setAddrByte0 d hdest, hsource⟩ }
  | bltDest1 => exact { h with addressesMasked := ⟨within_setAddrByte1 d hdest, hsource⟩ }
  | bltDest2 => exact { h with addressesMasked := ⟨within_setAddrByte2 d hdest, hsource⟩ }
  | bltSrc0 => exact { h with addressesMasked := ⟨hdest, within_setAddrByte0 d hsource⟩ }
  | bltSrc1 => exact { h with addressesMasked := ⟨hdest, within_setAddrByte1 d hsource⟩ }
  | bltSrc2 => exact { h with addressesMasked := ⟨hdest, within_setAddrByte2 d hsource⟩ }
  | seqExtMode | seqCursorAttr | seqCursorAddr | gcBg0 | gcFg0 | gcModeExt | gcBg1 | gcFg1
  | crtcExt19 | crtcExt1A | crtcExt1B | bankRd | bankWr | bltMode | bltRop | bltTcolLo | bltTcolHi
  | bltTmaskLo | bltTmaskHi => exact { h with }

theorem maskAdvance (h : Invariant s) : Invariant (maskAdvance s) := by
  rcases maskAdvance_cases s with ⟨-, ha⟩ | ⟨hne, ha⟩ <;> rw [ha]
  · exact { h with phaseInCycle := h.hdacCycle_pos }
  · exact { h with phaseInCycle := Nat.lt_of_le_of_ne h.phaseInCycle hne }

theorem putEntry (h : Invariant s) (sel : DacMode) (idx : Byte) (c : Component) (d : Byte) :
    Invariant (putEntry sel idx (setComponent c (d &&& s.cfg.dacCompMask) (paletteEntry sel idx s)) s) := by
  cases sel with
  | normal => exact { h with }
  | hidden =>
    refine { h with extPaletteMasked := fun i => ?_ }
    have hentry : RgbWithin (paletteEntry .hidden idx s) s.cfg.dacCompMask :=
      h.extPaletteMasked ⟨(extIndex idx).toNat, (extIndex idx).isLt⟩
    simp only [Machine.putEntry, Fin.getElem_fin, Vector.getElem_set]
    split
    · exact rgbWithin_setComponent c d hentry
    · exact h.extPaletteMasked i

/-- The engine's record and VRAM may change as a transfer changes them: progress, one byte staged and nothing counted. -/
theorem withEngine (h : Invariant s) {b : Blt} {m : Memory} (staged : Byte)
    (hp : OnlyProgress { s.blt with systemBuffer := staged.setWidth 32, systemCount := 0 } b)
    (hf : b.fsm = .idle ∨ b.fsm = .xferSys) (hm : m.wf s.cfg.vramSize = true) :
    Invariant { s with blt := b, vram := m } := by
  unfold OnlyProgress at hp
  rw [hp]
  refine { h with vramWf := hm, fsmBetween := hf, nothingStaged := rfl, bufferOneByte := ?_ }
  refine BitVec.eq_of_getLsbD_eq fun k hk => ?_
  simp

theorem bltStart (h : Invariant s) : Invariant (bltStart s) := by
  rw [bltStart_frame]
  refine h.withEngine 0 ?_ (bltStart_fsm s) (bltStart_wf h.vramSize_pos h.vramWf)
  exact .trans (c := armBlt s.blt) rfl (bltStart_onlyProgress s)

theorem sysFeed (h : Invariant s) (d : Byte) : Invariant (sysFeed d s) := by
  rw [sysFeed_frame]
  exact h.withEngine d (sysFeed_onlyProgress d s) (sysFeed_fsm d h.fsmBetween) (sysFeed_wf d h.vramSize_pos h.vramWf)

/-- Every effect of an instruction keeps the invariant; the byte operations of a VRAM transfer are no effect of one between
transactions. -/
theorem of_effect {i : Instr} {t : State} (h : Invariant s) (he : Effect i s t) : Invariant t := by
  induction he with
  | unchanged => exact h
  | answers _ _ ih | changesDac _ _ _ ih => exact { ih with }
  | resetsPhase _ ih => exact { ih with phaseInCycle := ih.hdacCycle_pos }
  | setsLock d => exact { h with lockMasked := within_and .. }
  | movesCursor => exact { h with }
  | stores r d => exact h.putStored r d
  | writesEntry sel idx c d => exact h.putEntry sel idx c d
  | advancesPhase => exact h.maskAdvance
  | writesVram a v => exact { h with vramWf := memWrite_wf a v h.vramSize_pos h.vramWf }
  | starts => exact h.bltStart
  | feeds d => exact h.sysFeed d
  | passes f hf => rcases h.fsmBetween with hb | hb <;> cases hf.symm.trans hb

theorem takeEvent (h : Invariant s) (rest : List HostEvent) : Invariant (takeEvent rest s) := { h with }

/-- A device reset establishes the invariant wherever the parameters and VRAM are in order. -/
theorem of_deviceReset (hc : s.cfg.wf = true) (hv : s.vram.wf s.cfg.vramSize = true) : Invariant (deviceReset s) where
  cfgWf := hc
  vramWf := hv
  registerCounts := by simp [RegFile.reset]
  phaseInCycle := ((config_wf_iff _).mp hc).2.1
  fsmBetween := .inl rfl
  nothingStaged := rfl
  bufferOneByte := by simp [Blt.reset]
  lockMasked := within_zero _
  widthMasked := within_zero _
  heightMasked := within_zero _
  pitchesMasked := ⟨within_zero _, within_zero _⟩
  addressesMasked := ⟨within_zero _, within_zero _⟩
  extPaletteMasked := fun i => by
    have hzero : RgbWithin Rgb.zero s.cfg.dacCompMask := ⟨within_zero _, within_zero _, within_zero _⟩
    simpa [Cursor.reset] using hzero

end Invariant

/-! ### The statements -/

/-- Settles O50: the engine is never ARMED or in XFER_VRAM between transactions, so a step resets the device, runs one
instruction or does nothing. -/
theorem stepKeepsInvariant : Obligations.StepKeepsInvariant := by
  intro s t hs hstep
  rcases step_cases s with ⟨rest, -, h⟩ | ⟨hf, -⟩ | ⟨-, h⟩ | ⟨w, rest, -, h⟩ | h
  · cases h.symm.trans hstep
    exact .of_deviceReset (s := takeEvent rest s) hs.cfgWf hs.vramWf
  · rcases hs.fsmBetween with hb | hb <;> cases hf.symm.trans hb
  · exact hs.of_effect (.of_exec (h.symm.trans hstep))
  · exact (hs.takeEvent rest).of_effect (.of_exec (h.symm.trans hstep))
  · cases h.symm.trans hstep
    exact hs

/-- Settles O51: the machine after power-on is its own device reset, with the default parameters, empty VRAM and the engine
idle. -/
theorem resetSatisfiesInvariant : Obligations.ResetSatisfiesInvariant := by
  refine ⟨?_, tracking_of_ne_xferSys (by decide)⟩
  change Invariant (deviceReset State.reset)
  exact .of_deviceReset (by decide) State.reset_vram_wf

end Sys2Proof.Machine
end

section
/-! A system transfer that waits for the host: the instructions may rewrite its operands under it, but only a data feed moves
it. -/

namespace Sys2Proof.Machine

/-- Only operand registers differ (10_state.md R30..R36): the engine's state, its current addresses, its counts and its
staging are the same. The counterpart of `OnlyProgress`. -/
def OnlyOperands (b b' : Blt) : Prop :=
  b' = { b with
    width := b'.width, height := b'.height, destPitch := b'.destPitch, sourcePitch := b'.sourcePitch
    dest := b'.dest, source := b'.source, mode := b'.mode, rop := b'.rop
    transColour := b'.transColour, transColourMask := b'.transColourMask }

theorem OnlyOperands.of_eq {b b' : Blt} (h : b' = b) : OnlyOperands b b' := by
  rw [h]
  rfl

/-- A stored-byte register is an operand of the engine or no part of its record. -/
theorem putStored_onlyOperands (r : StoredReg) (v : Byte) (s : State) : OnlyOperands s.blt (putStored r v s).blt := by
  cases r <;> rfl

/-- While a system transfer waits, a START is discarded and no pass is under way, so of the effects of an instruction only a
feed moves the engine (20_memory.md R73). -/
theorem Effect.onlyOperands {i : Instr} {s t : State} (h : Effect i s t) (hf : s.blt.fsm = .xferSys)
    (hi : ∀ d, i ≠ .wBltData d) : OnlyOperands s.blt t.blt := by
  induction h with
  | unchanged => exact .of_eq rfl
  | answers _ _ ih | resetsPhase _ ih | changesDac _ _ _ ih => exact ih
  | setsLock | movesCursor | writesVram => exact .of_eq rfl
  | stores r => exact putStored_onlyOperands r _ s
  | writesEntry => exact .of_eq (putEntry_blt ..)
  | advancesPhase => exact .of_eq (maskAdvance_blt s)
  | starts _ _ hstart =>
    obtain ⟨-, -, hidle⟩ := hstart
    cases hf.symm.trans hidle
  | feeds d hd => exact absurd hd (hi d)
  | passes _ hx => cases hf.symm.trans hx

/-- Settles O46: an instruction that feeds no byte changes nothing of the waiting engine but its operands. -/
theorem otherTransactionsKeepTheTransfer : Obligations.OtherTransactionsKeepTheTransfer := by
  intro i s hf hi
  obtain ⟨t, hexec, heffect⟩ := exec_effect i s
  have hkeep : OnlyOperands s.blt t.blt := heffect.onlyOperands hf hi
  unfold OnlyOperands at hkeep
  refine ⟨t, hexec, ?_⟩
  rw [hkeep]
  exact ⟨hf, rfl, rfl, rfl, rfl, rfl, rfl⟩

end Sys2Proof.Machine
end

section
/-! The fields of a transaction word (30_encoding.md R90): reading a field of `txnWord` gives it back, and a word that is
invalid in none of the four ways of R105 is a `txnWord`. -/

namespace Sys2Proof

section
variable (space : BitVec 4) (rw : Bool) (addr : Addr) (data : Byte)

@[simp] theorem txnWord_data : (txnWord space rw addr data).extractLsb' 0 8 = data :=
  BitVec.extractLsb'_append_eq_right

@[simp] theorem txnWord_addr : (txnWord space rw addr data).extractLsb' 8 24 = addr := by
  unfold txnWord
  rw [BitVec.extractLsb'_append_eq_of_le (by omega)]
  exact BitVec.extractLsb'_append_eq_right

/-- A slice above the address is one of the space, the three zero bits and the direction. -/
theorem txnWord_extract_high {start : Nat} (len : Nat) (h : 32 ≤ start) :
    (txnWord space rw addr data).extractLsb' start len =
      (space ++ 0#3 ++ BitVec.ofBool rw).extractLsb' (start - 32) len := by
  unfold txnWord
  rw [BitVec.extractLsb'_append_eq_of_le (by omega), BitVec.extractLsb'_append_eq_of_le (by omega)]
  congr 1

/-- A slice of the space and the zero bits alone. -/
theorem txnWord_extract_above {start : Nat} (len : Nat) (h : 33 ≤ start) :
    (txnWord space rw addr data).extractLsb' start len = (space ++ 0#3).extractLsb' (start - 33) len := by
  rw [txnWord_extract_high _ _ _ _ _ (by omega), BitVec.extractLsb'_append_eq_of_le (by omega)]
  congr 1

@[simp] theorem txnWord_direction : (txnWord space rw addr data).extractLsb' 32 1 = BitVec.ofBool rw :=
  (txnWord_extract_high _ _ _ _ 1 (by omega)).trans BitVec.extractLsb'_append_eq_right

@[simp] theorem txnWord_zeros : (txnWord space rw addr data).extractLsb' 33 3 = 0 :=
  (txnWord_extract_above _ _ _ _ 3 (by omega)).trans BitVec.extractLsb'_append_eq_right

@[simp] theorem txnWord_space : (txnWord space rw addr data).extractLsb' 36 4 = space :=
  (txnWord_extract_above _ _ _ _ 4 (by omega)).trans BitVec.extractLsb'_append_eq_left

@[simp] theorem txnWord_spaceLow : (txnWord space rw addr data).extractLsb' 36 3 = space.extractLsb' 0 3 :=
  (txnWord_extract_above _ _ _ _ 3 (by omega)).trans (BitVec.extractLsb'_append_eq_of_le (by omega))

end

theorem ofBool_getLsbD (w : Txn) (k : Nat) : BitVec.ofBool (w.getLsbD k) = w.extractLsb' k 1 := by
  ext i hi
  obtain rfl : i = 0 := by omega
  simp

/-- A word with `T[35:33] = 0` is made of its fields. -/
theorem txnWord_of_fields {w : Txn} (h : w.extractLsb' 33 3 = 0) :
    txnWord (w.extractLsb' 36 4) (w.getLsbD 32) (w.extractLsb' 8 24) (w.extractLsb' 0 8) = w := by
  have hz : 0#3 = w.extractLsb' 33 3 := h.symm
  unfold txnWord
  rw [ofBool_getLsbD, hz, BitVec.extractLsb'_append_extractLsb'_eq_extractLsb' (by omega),
    BitVec.extractLsb'_append_extractLsb'_eq_extractLsb' (by omega),
    BitVec.extractLsb'_append_extractLsb'_eq_extractLsb' (by omega),
    BitVec.extractLsb'_append_extractLsb'_eq_extractLsb' (by omega)]
  exact BitVec.extractLsb'_eq_self

/-- The bits 33..35 that the decoder tests one by one are the field `T[35:33]`. -/
theorem zeros_iff (w : Txn) :
    w.extractLsb' 33 3 = 0 ↔ w.getLsbD 33 = false ∧ w.getLsbD 34 = false ∧ w.getLsbD 35 = false := by
  constructor
  · intro h
    have hbit : ∀ k < 3, w.getLsbD (33 + k) = false := by
      intro k hk
      have hk' := congrArg (BitVec.getLsbD · k) h
      simpa [hk] using hk'
    exact ⟨hbit 0 (by omega), hbit 1 (by omega), hbit 2 (by omega)⟩
  · rintro ⟨h33, h34, h35⟩
    refine BitVec.eq_of_getLsbD_eq fun k hk => ?_
    obtain rfl | rfl | rfl : k = 0 ∨ k = 1 ∨ k = 2 := by omega
    · simpa using h33
    · simpa using h34
    · simpa using h35

/-- Bit 39 is set for the spaces of 8 and up. -/
theorem space_lt_iff (w : Txn) : (w.extractLsb' 36 4).toNat < 8 ↔ w.getLsbD 39 = false := by
  have h39 : (w.extractLsb' 36 4).msb = w.getLsbD 39 := by simp [BitVec.msb_eq_getLsbD_last]
  rw [← h39, BitVec.msb_eq_false_iff_two_mul_lt]
  omega

section
variable (space : BitVec 4) (rw : Bool) (addr : Addr) (data : Byte)

@[simp] theorem txnWord_bit32 : (txnWord space rw addr data)[32] = rw := by
  have h := txnWord_direction space rw addr data
  rw [← ofBool_getLsbD, BitVec.ofBool_eq_iff_eq] at h
  simpa using h

/-- Every word made of fields is clear in the bits of R105; bit 39 is clear where the space is below 8. -/
theorem txnWord_bits : (txnWord space rw addr data)[33] = false ∧ (txnWord space rw addr data)[34] = false ∧
    (txnWord space rw addr data)[35] = false := by
  simpa using (zeros_iff _).mp (txnWord_zeros space rw addr data)

variable {space}

theorem txnWord_bit39 (h : space.toNat < 8) : (txnWord space rw addr data)[39] = false := by
  simpa [h] using space_lt_iff (txnWord space rw addr data)

end

end Sys2Proof
end

section
/-! The words of each space decode to what the decoder of the space says (30_encoding.md R91, R106), and a word that is no
transaction decodes to the first row of R105 it meets. -/

namespace Sys2Proof

section
variable (rw : Bool) (addr : Addr) (data : Byte)

theorem decode_txnWord_mem :
    decode (.txn (txnWord 0 rw addr data)) = if rw then .wMem addr data else .rMem addr data := by
  simp [decode, decodeTxn, txnWord_bits, txnWord_bit39]

theorem decode_txnWord_lfb :
    decode (.txn (txnWord 1 rw addr data)) = if rw then .wLfb addr data else .rLfb addr data := by
  simp [decode, decodeTxn, txnWord_bits, txnWord_bit39]

theorem decode_txnWord_seq : decode (.txn (txnWord 2 rw addr data)) = decodeSeq rw addr data := by
  simp [decode, decodeTxn, txnWord_bits, txnWord_bit39]

theorem decode_txnWord_gc : decode (.txn (txnWord 3 rw addr data)) = decodeGc rw addr data := by
  simp [decode, decodeTxn, txnWord_bits, txnWord_bit39]

theorem decode_txnWord_crtc : decode (.txn (txnWord 4 rw addr data)) = decodeCrtc rw addr data := by
  simp [decode, decodeTxn, txnWord_bits, txnWord_bit39]

theorem decode_txnWord_dac : decode (.txn (txnWord 5 rw addr data)) = decodeDac rw addr data := by
  simp [decode, decodeTxn, txnWord_bits, txnWord_bit39]

theorem decode_txnWord_blt : decode (.txn (txnWord 6 rw addr data)) = decodeBlt rw addr data := by
  simp [decode, decodeTxn, txnWord_bits, txnWord_bit39]

theorem decode_txnWord_bank : decode (.txn (txnWord 7 rw addr data)) = decodeBank rw addr data := by
  simp [decode, decodeTxn, txnWord_bits, txnWord_bit39]

end

section
variable {w : Txn}

theorem decode_of_invalidSpace (h : (Instr.invalidSpace w).wf = true) : decode (.txn w) = .invalidSpace w :=
  if_pos h

theorem decode_of_invalidBit33 (h : (Instr.invalidBit33 w).wf = true) : decode (.txn w) = .invalidBit33 w := by
  simp_all [Instr.wf, decode, decodeTxn]

theorem decode_of_invalidBit34 (h : (Instr.invalidBit34 w).wf = true) : decode (.txn w) = .invalidBit34 w := by
  simp_all [Instr.wf, decode, decodeTxn]

theorem decode_of_invalidBit35 (h : (Instr.invalidBit35 w).wf = true) : decode (.txn w) = .invalidBit35 w := by
  simp_all [Instr.wf, decode, decodeTxn]

end

/-- Every word is invalid in one of the four ways of R105 or has a space below 8 and clear bits 33..35 (R106 step 1). -/
theorem txn_cases (w : Txn) :
    (Instr.invalidSpace w).wf = true ∨ (Instr.invalidBit33 w).wf = true ∨ (Instr.invalidBit34 w).wf = true ∨
    (Instr.invalidBit35 w).wf = true ∨
    ∃ (space : BitVec 4) (rw : Bool) (addr : Addr) (data : Byte),
      space.toNat < 8 ∧ w = txnWord space rw addr data := by
  rcases Bool.eq_false_or_eq_true (w.getLsbD 39) with h39 | h39
  · exact .inl h39
  rcases Bool.eq_false_or_eq_true (w.getLsbD 33) with h33 | h33
  · exact .inr (.inl (by simp only [Instr.wf, h39, h33]; rfl))
  rcases Bool.eq_false_or_eq_true (w.getLsbD 34) with h34 | h34
  · exact .inr (.inr (.inl (by simp only [Instr.wf, h39, h33, h34]; rfl)))
  rcases Bool.eq_false_or_eq_true (w.getLsbD 35) with h35 | h35
  · exact .inr (.inr (.inr (.inl (by simp only [Instr.wf, h39, h33, h34, h35]; rfl))))
  have hspace := (space_lt_iff w).mpr h39
  have hzeros := (zeros_iff w).mpr ⟨h33, h34, h35⟩
  exact .inr (.inr (.inr (.inr ⟨_, _, _, _, hspace, (txnWord_of_fields hzeros).symm⟩)))

end Sys2Proof
end

section
/-! The index tables of 30_encoding.md R92..R99 and the table of raster operations (R102): the decoder of a space gives an
index without a row to the space's unassigned instruction, and its rows are those of the encoder. -/

namespace Sys2Proof

@[simp] theorem addrHigh_indexAddr (i : Byte) : addrHigh (indexAddr i) = 0 := BitVec.extractLsb'_append_eq_left

@[simp] theorem addrIndex_indexAddr (i : Byte) : addrIndex (indexAddr i) = i := BitVec.extractLsb'_append_eq_right

theorem indexAddr_addrIndex {a : Addr} (h : addrHigh a = 0) : indexAddr (addrIndex a) = a := by
  unfold indexAddr
  rw [show 0#16 = addrHigh a from h.symm]
  exact (BitVec.extractLsb'_append_extractLsb'_eq_extractLsb' rfl).trans BitVec.extractLsb'_eq_self

/-- The test every `…Assigned` makes: the address is that of an index in the list. -/
theorem listed_iff (indices : List Byte) (a : Addr) :
    (addrHigh a == 0 && indices.contains (addrIndex a)) = true ↔ ∃ i ∈ indices, a = indexAddr i := by
  simp only [Bool.and_eq_true, beq_iff_eq, List.contains_iff_mem]
  constructor
  · rintro ⟨hhigh, hmem⟩
    exact ⟨_, hmem, (indexAddr_addrIndex hhigh).symm⟩
  · rintro ⟨i, hi, rfl⟩
    simpa using hi

/-- The decoders match on a byte as a number: a byte outside a table meets none of its numbers. -/
theorem toNat_ne_of_not_contains {codes : List Byte} {c : Byte} (h : codes.contains c = false) :
    ∀ n ∈ codes.map BitVec.toNat, ¬ c.toNat = n := by
  rintro n hn rfl
  rw [List.mem_map_of_injective fun _ _ => BitVec.eq_of_toNat_eq] at hn
  simp [hn] at h

theorem toNat_ne_of_not_listed {indices : List Byte} {a : Addr} (hhigh : addrHigh a = 0)
    (h : (addrHigh a == 0 && indices.contains (addrIndex a)) = false) :
    ∀ n ∈ indices.map BitVec.toNat, ¬ (addrIndex a).toNat = n :=
  toNat_ne_of_not_contains (by simpa [hhigh] using h)

/-! ### Indices without a row -/

section
variable {a : Addr} (rw : Bool) (d : Byte)

theorem decodeGc_of_unassigned (h : gcAssigned a = false) :
    decodeGc rw a d = if rw then .wGcUnassigned a d else .rGcUnassigned a d := by
  by_cases hhigh : addrHigh a = 0
  · have hindex := toNat_ne_of_not_listed hhigh h
    simp [decodeGc, hindex]
  · exact if_neg hhigh

theorem decodeCrtc_of_unassigned (h : crtcAssigned a = false) :
    decodeCrtc rw a d = if rw then .wCrtcUnassigned a d else .rCrtcUnassigned a d := by
  by_cases hhigh : addrHigh a = 0
  · have hindex := toNat_ne_of_not_listed hhigh h
    simp [decodeCrtc, hindex]
  · exact if_neg hhigh

theorem decodeDac_of_unassigned (h : dacAssigned a = false) :
    decodeDac rw a d = if rw then .wDacUnassigned a d else .rDacUnassigned a d := by
  by_cases hhigh : addrHigh a = 0
  · have hindex := toNat_ne_of_not_listed hhigh h
    simp [decodeDac, hindex]
  · exact if_neg hhigh

theorem decodeBlt_of_unassigned (h : bltAssigned a = false) :
    decodeBlt rw a d = if rw then .wBltUnassigned a d else .rBltUnassigned a d := by
  by_cases hhigh : addrHigh a = 0
  · have hindex := toNat_ne_of_not_listed hhigh h
    simp [decodeBlt, hindex]
  · exact if_neg hhigh

theorem decodeBank_of_unassigned (h : bankAssigned a = false) :
    decodeBank rw a d = if rw then .wBankUnassigned a d else .rBankUnassigned a d := by
  by_cases hhigh : addrHigh a = 0
  · have hindex := toNat_ne_of_not_listed hhigh h
    simp [decodeBank, hindex]
  · exact if_neg hhigh

theorem decodeSeq_of_unassigned (h : seqAssigned a = false) :
    decodeSeq rw a d = if rw then .wSeqUnassigned a d else .rSeqUnassigned a d := by
  by_cases hhigh : addrHigh a = 0
  · simp only [seqAssigned, hhigh, BEq.rfl, Bool.true_and, Bool.or_eq_false_iff, beq_eq_false_iff_ne] at h
    obtain ⟨⟨hx, hy⟩, hlist⟩ := h
    have hindex := toNat_ne_of_not_contains hlist
    rw [decodeSeq, if_pos hhigh, if_neg hx, if_neg hy]
    simp [hindex]
  · exact if_neg hhigh

end

theorem decodeRop_of_not_contains {code : Byte} (h : Config.allRops.contains code = false) :
    decodeRop code = .ropDefault code := by
  have hcode := toNat_ne_of_not_contains h
  simp [decodeRop, Config.allRops, hcode]

/-! ### Rows -/

/-- The instruction is the meaning of the code (30_encoding.md R106): it is well formed and its code is this one. -/
def Represents (i : Instr) (c : Code) : Prop := i.wf = true ∧ encode i = c

section
variable (rw : Bool) (a : Addr) (d : Byte)

theorem decodeGc_represents : Represents (decodeGc rw a d) (.txn (txnWord 3 rw a d)) := by
  cases h : gcAssigned a
  · rw [decodeGc_of_unassigned rw d h]
    cases rw <;> simp [Represents, Instr.wf, encode, h]
  · obtain ⟨i, hi, rfl⟩ := (listed_iff _ a).mp h
    fin_cases hi <;> cases rw <;> exact ⟨rfl, rfl⟩

theorem decodeCrtc_represents : Represents (decodeCrtc rw a d) (.txn (txnWord 4 rw a d)) := by
  cases h : crtcAssigned a
  · rw [decodeCrtc_of_unassigned rw d h]
    cases rw <;> simp [Represents, Instr.wf, encode, h]
  · obtain ⟨i, hi, rfl⟩ := (listed_iff _ a).mp h
    fin_cases hi <;> cases rw <;> exact ⟨rfl, rfl⟩

theorem decodeDac_represents : Represents (decodeDac rw a d) (.txn (txnWord 5 rw a d)) := by
  cases h : dacAssigned a
  · rw [decodeDac_of_unassigned rw d h]
    cases rw <;> simp [Represents, Instr.wf, encode, h]
  · obtain ⟨i, hi, rfl⟩ := (listed_iff _ a).mp h
    fin_cases hi <;> cases rw <;> exact ⟨rfl, rfl⟩

theorem decodeBlt_represents : Represents (decodeBlt rw a d) (.txn (txnWord 6 rw a d)) := by
  cases h : bltAssigned a
  · rw [decodeBlt_of_unassigned rw d h]
    cases rw <;> simp [Represents, Instr.wf, encode, h]
  · obtain ⟨i, hi, rfl⟩ := (listed_iff _ a).mp h
    fin_cases hi <;> cases rw <;> exact ⟨rfl, rfl⟩

theorem decodeBank_represents : Represents (decodeBank rw a d) (.txn (txnWord 7 rw a d)) := by
  cases h : bankAssigned a
  · rw [decodeBank_of_unassigned rw d h]
    cases rw <;> simp [Represents, Instr.wf, encode, h]
  · obtain ⟨i, hi, rfl⟩ := (listed_iff _ a).mp h
    fin_cases hi <;> cases rw <;> exact ⟨rfl, rfl⟩

end

/-! The cursor coordinates take eight indices each (30_encoding.md R93): `index[4:0]` names the row, `index[7:5]` is an
operand. -/

theorem indexLow_append (low : BitVec 3) (row : BitVec 5) : indexLow (low ++ row) = row :=
  BitVec.extractLsb'_append_eq_right

theorem indexAddr_operand (low : BitVec 3) (row : BitVec 5) : (indexAddr (low ++ row)).extractLsb' 5 3 = low := by
  unfold indexAddr
  rw [BitVec.extractLsb'_append_eq_of_add_le (by omega)]
  exact BitVec.extractLsb'_append_eq_left

theorem decodeSeq_cursorX (rw : Bool) (low : BitVec 3) (d : Byte) :
    decodeSeq rw (indexAddr (low ++ 0x10#5)) d = if rw then .wSeqCursorX low d else .rSeqCursorX low d := by
  simp [decodeSeq, indexLow_append, indexAddr_operand]

theorem decodeSeq_cursorY (rw : Bool) (low : BitVec 3) (d : Byte) :
    decodeSeq rw (indexAddr (low ++ 0x11#5)) d = if rw then .wSeqCursorY low d else .rSeqCursorY low d := by
  simp [decodeSeq, indexLow_append, indexAddr_operand]

theorem operand_append_indexLow (i : Byte) : i.extractLsb' 5 3 ++ indexLow i = i :=
  (BitVec.extractLsb'_append_extractLsb'_eq_extractLsb' rfl).trans BitVec.extractLsb'_eq_self

theorem indexLow_eq_iff (i : Byte) (row : BitVec 5) : indexLow i = row ↔ ∃ low : BitVec 3, i = low ++ row := by
  constructor
  · rintro rfl
    exact ⟨_, (operand_append_indexLow i).symm⟩
  · rintro ⟨low, rfl⟩
    exact indexLow_append low row

/-- An index of the `SEQ` space with a row is a cursor coordinate or one of the list. -/
theorem seqAssigned_cases {a : Addr} (h : seqAssigned a = true) :
    (∃ low : BitVec 3, a = indexAddr (low ++ 0x10#5)) ∨ (∃ low : BitVec 3, a = indexAddr (low ++ 0x11#5)) ∨
    ∃ i ∈ ([0x06, 0x07, 0x09, 0x0A, 0x0B, 0x0C, 0x0D, 0x0E, 0x12, 0x13, 0x14, 0x1B, 0x1C, 0x1D, 0x1E] : List Byte),
      a = indexAddr i := by
  simp only [seqAssigned, Bool.and_eq_true, Bool.or_eq_true, beq_iff_eq, indexLow_eq_iff, List.contains_iff_mem] at h
  obtain ⟨hhigh, (⟨low, hx⟩ | ⟨low, hy⟩) | hlist⟩ := h
  · exact .inl ⟨low, hx ▸ (indexAddr_addrIndex hhigh).symm⟩
  · exact .inr (.inl ⟨low, hy ▸ (indexAddr_addrIndex hhigh).symm⟩)
  · exact .inr (.inr ⟨_, hlist, (indexAddr_addrIndex hhigh).symm⟩)

theorem decodeSeq_represents (rw : Bool) (a : Addr) (d : Byte) :
    Represents (decodeSeq rw a d) (.txn (txnWord 2 rw a d)) := by
  cases h : seqAssigned a
  · rw [decodeSeq_of_unassigned rw d h]
    cases rw <;> simp [Represents, Instr.wf, encode, h]
  · obtain ⟨low, rfl⟩ | ⟨low, rfl⟩ | ⟨i, hi, rfl⟩ := seqAssigned_cases h
    · rw [decodeSeq_cursorX]
      cases rw <;> exact ⟨rfl, rfl⟩
    · rw [decodeSeq_cursorY]
      cases rw <;> exact ⟨rfl, rfl⟩
    · fin_cases hi <;> cases rw <;> exact ⟨rfl, rfl⟩

theorem decodeRop_represents (code : Byte) : Represents (decodeRop code) (.rop code) := by
  cases h : Config.allRops.contains code
  · rw [decodeRop_of_not_contains h]
    exact ⟨by simpa [Instr.wf] using h, rfl⟩
  · have hcode : code ∈ Config.allRops := by simpa using h
    unfold Config.allRops at hcode
    fin_cases hcode <;> exact ⟨rfl, rfl⟩

end Sys2Proof
end

section
/-! Decoding and encoding agree (30_encoding.md R90..R106). -/

namespace Sys2Proof

theorem space_cases : ∀ space : BitVec 4, space.toNat < 8 →
    space = 0 ∨ space = 1 ∨ space = 2 ∨ space = 3 ∨ space = 4 ∨ space = 5 ∨ space = 6 ∨ space = 7 := by
  decide

theorem decode_txnWord_represents {space : BitVec 4} (hspace : space.toNat < 8) (rw : Bool) (a : Addr) (d : Byte) :
    Represents (decode (.txn (txnWord space rw a d))) (.txn (txnWord space rw a d)) := by
  obtain rfl | rfl | rfl | rfl | rfl | rfl | rfl | rfl := space_cases space hspace
  · rw [decode_txnWord_mem]
    cases rw <;> exact ⟨rfl, rfl⟩
  · rw [decode_txnWord_lfb]
    cases rw <;> exact ⟨rfl, rfl⟩
  · exact decode_txnWord_seq .. ▸ decodeSeq_represents ..
  · exact decode_txnWord_gc .. ▸ decodeGc_represents ..
  · exact decode_txnWord_crtc .. ▸ decodeCrtc_represents ..
  · exact decode_txnWord_dac .. ▸ decodeDac_represents ..
  · exact decode_txnWord_blt .. ▸ decodeBlt_represents ..
  · exact decode_txnWord_bank .. ▸ decodeBank_represents ..

/-- Settles O53: the word is invalid in one of the four ways, and then carried whole, or made of its fields, and then the
decoder of its space answers for it. -/
theorem encodeOfDecode : Obligations.EncodeOfDecode
  | .rop code => decodeRop_represents code
  | .txn w => by
    rcases txn_cases w with h | h | h | h | ⟨space, rw, a, d, hspace, rfl⟩
    · rw [decode_of_invalidSpace h]
      exact ⟨h, rfl⟩
    · rw [decode_of_invalidBit33 h]
      exact ⟨h, rfl⟩
    · rw [decode_of_invalidBit34 h]
      exact ⟨h, rfl⟩
    · rw [decode_of_invalidBit35 h]
      exact ⟨h, rfl⟩
    · exact decode_txnWord_represents hspace rw a d

/-- Settles O52: a row's word is decoded by its space to the row (by evaluation, the index being fixed); an index without a
row and an invalid word are told from the rows by the well-formedness of the instruction. -/
theorem decodeOfEncode : Obligations.DecodeOfEncode := by
  intro i h
  cases i with
  | wMem | rMem => exact decode_txnWord_mem ..
  | wLfb | rLfb => exact decode_txnWord_lfb ..
  -- the rows of the register spaces
  | wSeqCursorX | rSeqCursorX => exact (decode_txnWord_seq ..).trans (decodeSeq_cursorX ..)
  | wSeqCursorY | rSeqCursorY => exact (decode_txnWord_seq ..).trans (decodeSeq_cursorY ..)
  | wSeqLock | rSeqLock | wSeqExtMode | rSeqExtMode
  | wSeqScratch1 | rSeqScratch1 | wSeqScratch2 | rSeqScratch2 | wSeqScratch3 | rSeqScratch3
  | wSeqVclkNum0 | rSeqVclkNum0 | wSeqVclkNum1 | rSeqVclkNum1 | wSeqVclkNum2 | rSeqVclkNum2
  | wSeqVclkNum3 | rSeqVclkNum3 | wSeqVclkDenom0 | rSeqVclkDenom0 | wSeqVclkDenom1 | rSeqVclkDenom1
  | wSeqVclkDenom2 | rSeqVclkDenom2 | wSeqVclkDenom3 | rSeqVclkDenom3
  | wSeqCursorAttr | rSeqCursorAttr | wSeqCursorAddr | rSeqCursorAddr =>
    exact (decode_txnWord_seq ..).trans rfl
  | wGcBg0 | rGcBg0 | wGcFg0 | rGcFg0 | wGcModeExt | rGcModeExt | wGcBg1 | rGcBg1 | wGcFg1 | rGcFg1 =>
    exact (decode_txnWord_gc ..).trans rfl
  | wCrtcExt19 | rCrtcExt19 | wCrtcExt1A | rCrtcExt1A | wCrtcExt1B | rCrtcExt1B | wCrtcId | rCrtcId =>
    exact (decode_txnWord_crtc ..).trans rfl
  | wDacMask | rDacMask | wDacIndexR | rDacIndexR | wDacIndexW | rDacIndexW | wDacData | rDacData
  | wDacOverlay | rDacOverlay =>
    exact (decode_txnWord_dac ..).trans rfl
  | wBltWidthLo | rBltWidthLo | wBltWidthHi | rBltWidthHi | wBltHeightLo | rBltHeightLo | wBltHeightHi | rBltHeightHi
  | wBltDpitchLo | rBltDpitchLo | wBltDpitchHi | rBltDpitchHi | wBltSpitchLo | rBltSpitchLo | wBltSpitchHi | rBltSpitchHi
  | wBltDest0 | rBltDest0 | wBltDest1 | rBltDest1 | wBltDest2 | rBltDest2
  | wBltSrc0 | rBltSrc0 | wBltSrc1 | rBltSrc1 | wBltSrc2 | rBltSrc2
  | wBltMode | rBltMode | wBltStatus | rBltStatus | wBltRop | rBltRop | wBltTcolLo | rBltTcolLo | wBltTcolHi | rBltTcolHi
  | wBltTmaskLo | rBltTmaskLo | wBltTmaskHi | rBltTmaskHi | wBltData | rBltData =>
    exact (decode_txnWord_blt ..).trans rfl
  | wBankRd | rBankRd | wBankWr | rBankWr => exact (decode_txnWord_bank ..).trans rfl
  -- the indices without a row
  | wSeqUnassigned | rSeqUnassigned =>
    exact (decode_txnWord_seq ..).trans (decodeSeq_of_unassigned _ _ ((Bool.not_eq_true' _).mp h))
  | wGcUnassigned | rGcUnassigned =>
    exact (decode_txnWord_gc ..).trans (decodeGc_of_unassigned _ _ ((Bool.not_eq_true' _).mp h))
  | wCrtcUnassigned | rCrtcUnassigned =>
    exact (decode_txnWord_crtc ..).trans (decodeCrtc_of_unassigned _ _ ((Bool.not_eq_true' _).mp h))
  | wDacUnassigned | rDacUnassigned =>
    exact (decode_txnWord_dac ..).trans (decodeDac_of_unassigned _ _ ((Bool.not_eq_true' _).mp h))
  | wBltUnassigned | rBltUnassigned =>
    exact (decode_txnWord_blt ..).trans (decodeBlt_of_unassigned _ _ ((Bool.not_eq_true' _).mp h))
  | wBankUnassigned | rBankUnassigned =>
    exact (decode_txnWord_bank ..).trans (decodeBank_of_unassigned _ _ ((Bool.not_eq_true' _).mp h))
  -- the invalid words
  | invalidSpace => exact decode_of_invalidSpace h
  | invalidBit33 => exact decode_of_invalidBit33 h
  | invalidBit34 => exact decode_of_invalidBit34 h
  | invalidBit35 => exact decode_of_invalidBit35 h
  -- the raster operations
  | ropZero | ropAnd | ropNop | ropSrcAndNotDst | ropNotDst | ropCopy | ropOne | ropNotSrcAndDst
  | ropXor | ropOr | ropNor | ropXnor | ropSrcOrNotDst | ropNotSrc | ropNotSrcOrDst | ropNand =>
    rfl
  | ropDefault => exact decodeRop_of_not_contains ((Bool.not_eq_true' _).mp h)

/-- Settles O13: such a word is none that `txnWord` makes, so it decodes to one of the four invalid instructions. -/
theorem invalidWordsChangeNothing : Obligations.InvalidWordsChangeNothing := by
  refine ⟨fun w s hinvalid => ?_, fun w s => ⟨rfl, rfl, rfl, rfl⟩⟩
  rcases txn_cases w with h | h | h | h | ⟨space, rw, a, d, hspace, rfl⟩
  · rw [decode_of_invalidSpace h]
    rfl
  · rw [decode_of_invalidBit33 h]
    rfl
  · rw [decode_of_invalidBit34 h]
    rfl
  · rw [decode_of_invalidBit35 h]
    rfl
  · rw [txnWord_zeros, txnWord_space] at hinvalid
    rcases hinvalid with hzeros | hhigh
    · exact absurd rfl hzeros
    · omega

/-- Settles O55: the decoder evaluated on the words of 95_test_vectors.md section 2.8 and on the four words beside them. -/
theorem specWordsDecode : Obligations.SpecWordsDecode := by
  unfold Obligations.SpecWordsDecode
  decide

end Sys2Proof
end

section
/-! The stored-byte template (40_register_file_bank.md R128) behind the lock gate (R120), proved once for every register that
follows it: a row of the tables gives the register's rule. -/

namespace Sys2Proof.Machine

/-- The word of a well-formed instruction decodes to it. -/
theorem decode_of_represents {i : Instr} {c : Code} (h : Represents i c) : decode c = i := by
  obtain ⟨hwf, rfl⟩ := h
  exact decodeOfEncode i hwf

theorem decodesAt_of_represents {space : BitVec 4} {index : Byte} {write read : Byte → Instr}
    (h : ∀ d, Represents (write d) (.txn (txnWord space true (indexAddr index) d)) ∧
      Represents (read d) (.txn (txnWord space false (indexAddr index) d))) :
    DecodesAt space index write read := by
  intro d
  obtain ⟨hwrite, hread⟩ := h d
  exact ⟨decode_of_represents hwrite, decode_of_represents hread⟩

section
variable {r : StoredReg} {s : State}

/-- A register the chip has is written behind an open gate. -/
theorem writeStored_open (d : Byte) (hpresent : registerPresent r s.cfg = true) (hopen : GateOpen s (.stored r)) :
    writeStored r d s = putStored r (d &&& writeMask r s.cfg) s :=
  (if_pos hpresent).trans (gated_open _ hopen)

/-- A shut gate discards the write, whether the chip has the register or not. -/
theorem writeStored_shut (d : Byte) (hshut : GateShut s (.stored r)) : writeStored r d s = s := by
  obtain ⟨hprot, hlocked⟩ := hshut
  rcases writeStored_cases r d s with ⟨-, hopen, -⟩ | h
  · exact absurd (hopen hprot) hlocked
  · exact h

theorem writeStored_absent (d : Byte) (habsent : registerPresent r s.cfg = false) : writeStored r d s = s :=
  if_neg (by simp [habsent])

theorem readStored_present (hpresent : registerPresent r s.cfg = true) : readStored r s = answerByte (storedByte r s) s :=
  if_pos hpresent

theorem readStored_absent (habsent : registerPresent r s.cfg = false) :
    readStored r s = answerByte s.cfg.unassignedRead s :=
  if_neg (by simp [habsent])

end

section
variable {space : BitVec 4} {index : Byte} {r : StoredReg} {write read : Byte → Instr}

/-- The rule of a stored-byte register from its rows: the words of the two instructions, their meanings by the template, and
the register's entries in the tables of masks and fields. -/
theorem StoredRegisterRule.of_rows {prot : Bool} {get mask : State → Byte} {put : Byte → State → State}
    (hwords : ∀ d, Represents (write d) (.txn (txnWord space true (indexAddr index) d)) ∧
      Represents (read d) (.txn (txnWord space false (indexAddr index) d)))
    (hprot : Config.default.protectedRegs.contains (.stored r) = prot)
    (hpresent : ∀ c, registerPresent r c = true)
    (hwrite : ∀ d s, exec (write d) s = .next (writeStored r d s))
    (hread : ∀ p s, exec (read p) s = .next (readStored r s))
    (hmask : ∀ s, writeMask r s.cfg = mask s) (hput : ∀ v s, putStored r v s = put v s)
    (hget : ∀ s, storedByte r s = get s) :
    StoredRegisterRule space index r prot write read get mask put := by
  refine ⟨decodesAt_of_represents hwords, hprot, fun d p s => ⟨fun hopen => ?gateOpen, fun hshut => ?gateShut, ?read⟩⟩
  case gateOpen => rw [hwrite, writeStored_open d (hpresent _) hopen, hput, hmask]
  case gateShut => rw [hwrite, writeStored_shut d hshut]
  case read =>
    rw [hread, readStored_present (hpresent _), hget]
    rfl

/-- The rule of a scratch register or clock byte from its rows: as `StoredRegisterRule.of_rows` where the parameters count the
slot; where they do not, the write is discarded and the read answers the constant. -/
theorem CountedRegisterRule.of_rows {count : Config → Nat} {slot : Nat} {get : State → List Byte}
    {put : List Byte → State → State}
    (hwords : ∀ d, Represents (write d) (.txn (txnWord space true (indexAddr index) d)) ∧
      Represents (read d) (.txn (txnWord space false (indexAddr index) d)))
    (hprot : Config.default.protectedRegs.contains (.stored r) = true) (hdefault : slot < count Config.default)
    (hpresent : ∀ c, registerPresent r c = decide (slot < count c))
    (hwrite : ∀ d s, exec (write d) s = .next (writeStored r d s))
    (hread : ∀ p s, exec (read p) s = .next (readStored r s))
    (hmask : ∀ c, writeMask r c = 0xFF) (hput : ∀ v s, putStored r v s = put ((get s).set slot v) s)
    (hget : ∀ s, storedByte r s = (get s).getD slot 0) :
    CountedRegisterRule space index r write read count slot get put := by
  have hcounted (c : Config) (h : slot < count c) : registerPresent r c = true := by simp [hpresent, h]
  have habsent (c : Config) (h : count c ≤ slot) : registerPresent r c = false := by simp [hpresent, h]
  refine ⟨decodesAt_of_represents hwords, hprot, hdefault, fun d p s =>
    ⟨fun h hopen => ?gateOpen, fun h hshut => ?gateShut, fun h => ?read, fun h => ⟨?absentWrite, ?absentRead⟩⟩⟩
  case gateOpen => rw [hwrite, writeStored_open d (hcounted _ h) hopen, hput, hmask, byte_and_ff]
  case gateShut => rw [hwrite, writeStored_shut d hshut]
  case read =>
    rw [hread, readStored_present (hcounted _ h), hget]
    rfl
  case absentWrite => rw [hwrite, writeStored_absent d (habsent _ h)]
  case absentRead =>
    rw [hread, readStored_absent (habsent _ h)]
    rfl

end

/-! ### The statements: the words and the tables evaluated at each register -/

/-- Settles O1: the scratch and clock bytes by the counted rule, the others by the plain one. -/
theorem sequencerStoredRegisters : Obligations.SequencerStoredRegisters := by
  refine ⟨?extMode, ?scratch1, ?scratch2, ?scratch3, ?num0, ?num1, ?num2, ?num3, ?denom0, ?denom1, ?denom2, ?denom3,
    ?cursorAttr, ?cursorAddr⟩
  case extMode | cursorAttr | cursorAddr =>
    exact .of_rows (fun _ => ⟨⟨rfl, rfl⟩, rfl, rfl⟩) (by decide) (fun _ => rfl) (fun _ _ => rfl) (fun _ _ => rfl)
      (fun _ => rfl) (fun _ _ => rfl) (fun _ => rfl)
  case scratch1 | scratch2 | scratch3 | num0 | num1 | num2 | num3 | denom0 | denom1 | denom2 | denom3 =>
    exact .of_rows (fun _ => ⟨⟨rfl, rfl⟩, rfl, rfl⟩) (by decide) (by decide) (fun _ => rfl) (fun _ _ => rfl)
      (fun _ _ => rfl) (fun _ => rfl) (fun _ _ => rfl) (fun _ => rfl)

/-- Settles O2: every register by the plain rule; the default table leaves `GC.BG0` and `GC.FG0` out. -/
theorem graphicsControllerRegisters : Obligations.GraphicsControllerRegisters := by
  refine ⟨?bg0, ?fg0, ?modeExt, ?bg1, ?fg1⟩
  case bg0 | fg0 | modeExt | bg1 | fg1 =>
    exact .of_rows (fun _ => ⟨⟨rfl, rfl⟩, rfl, rfl⟩) (by decide) (fun _ => rfl) (fun _ _ => rfl) (fun _ _ => rfl)
      (fun _ => rfl) (fun _ _ => rfl) (fun _ => rfl)

/-- Settles O3: every register by the plain rule. -/
theorem crtcExtensionRegisters : Obligations.CrtcExtensionRegisters := by
  refine ⟨?ext19, ?ext1A, ?ext1B⟩
  case ext19 | ext1A | ext1B =>
    exact .of_rows (fun _ => ⟨⟨rfl, rfl⟩, rfl, rfl⟩) (by decide) (fun _ => rfl) (fun _ _ => rfl) (fun _ _ => rfl)
      (fun _ => rfl) (fun _ _ => rfl) (fun _ => rfl)

/-- Settles O4: both registers by the plain rule. -/
theorem bankRegisters : Obligations.BankRegisters := by
  refine ⟨?rd, ?wr⟩
  case rd | wr =>
    exact .of_rows (fun _ => ⟨⟨rfl, rfl⟩, rfl, rfl⟩) (by decide) (fun _ => rfl) (fun _ _ => rfl) (fun _ _ => rfl)
      (fun _ => rfl) (fun _ _ => rfl) (fun _ => rfl)

/-- Settles O10: `CRTC.ID` is no stored byte; its rows have meanings of their own. -/
theorem chipIdRegister : Obligations.ChipIdRegister :=
  ⟨decodesAt_of_represents fun _ => ⟨⟨rfl, rfl⟩, rfl, rfl⟩, fun _ _ _ => ⟨rfl, rfl⟩⟩

end Sys2Proof.Machine
end

section
/-! The lock register (40_register_file_bank.md R122, R123; 30_encoding.md R103). -/

namespace Sys2Proof.Machine

theorem lockByte_eq (s : State) :
    lockByte s = if s.rf.lockReg = s.cfg.unlockKey then s.cfg.lockReadUnlocked else s.cfg.lockReadLocked := by
  simp only [lockByte, unlocked_iff]

/-- The default key under the default mask, bit by bit (30_encoding.md R103). -/
theorem defaultKey_iff (d : Byte) : d &&& Config.default.unlockMask = Config.default.unlockKey ↔
    d.getLsbD 4 = true ∧ d.getLsbD 2 = false ∧ d.getLsbD 1 = true ∧ d.getLsbD 0 = false := by
  change d &&& 0x17 = 0x12 ↔ _
  constructor
  · intro h
    have hbit (k : Nat) : (d.getLsbD k && (0x17 : Byte).getLsbD k) = (0x12 : Byte).getLsbD k := by
      rw [← BitVec.getLsbD_and, h]
    exact ⟨by simpa using hbit 4, by simpa using hbit 2, by simpa using hbit 1, by simpa using hbit 0⟩
  · rintro ⟨h4, h2, h1, h0⟩
    refine BitVec.eq_of_getLsbD_eq fun k hk => ?_
    rw [BitVec.getLsbD_and]
    interval_cases k <;> simp_all

/-- Settles O8: the write is behind the gate, which the default table leaves open. -/
theorem lockRegister : Obligations.LockRegister := by
  refine ⟨decodesAt_of_represents fun _ => ⟨⟨rfl, rfl⟩, rfl, rfl⟩, by decide, fun d p s => ⟨fun hopen => ?write, ?read⟩,
    rfl, rfl, defaultKey_iff⟩
  case write => exact congrArg _ (gated_open _ hopen)
  case read =>
    rw [← lockByte_eq]
    rfl

end Sys2Proof.Machine
end

section
/-! The indices without a row (40_register_file_bank.md R140, R141, R146, R154; 43_blt_registers.md R234). -/

namespace Sys2Proof.Machine

/-- The two words of an address decode as the direction bit says. -/
theorem decode_write_and_read {space : BitVec 4} {a : Addr} {d : Byte} {write read : Instr}
    (h : ∀ rw, decode (.txn (txnWord space rw a d)) = if rw then write else read) :
    decode (.txn (txnWord space true a d)) = write ∧ decode (.txn (txnWord space false a d)) = read :=
  ⟨h true, h false⟩

/-- The indices of the BLT space that R234 lists are none of those with a row (30_encoding.md R98). -/
theorem bltAssigned_eq_false {i : Byte}
    (h : i.toNat < 0x20 ∨ i = 0x2B ∨ i = 0x2F ∨ i = 0x33 ∨ i = 0x36 ∨ i = 0x37 ∨ (0x3A ≤ i.toNat ∧ i.toNat ≤ 0x3E) ∨
      0x40 ≤ i.toNat) : bltAssigned (indexAddr i) = false := by
  rw [← Bool.not_eq_true]
  intro hassigned
  obtain ⟨j, hj, hij⟩ := (listed_iff _ _).mp hassigned
  obtain rfl : i = j := by simpa using congrArg addrIndex hij
  fin_cases hj <;> simp at h

/-- Settles O11: an index without a row is told from the rows by the `…Assigned` test of its space, and the meanings of the
unassigned transactions are by definition. -/
theorem unassignedIndices : Obligations.UnassignedIndices := by
  refine ⟨fun i d hx hy hlist => ?seq, fun i d hlist => ?gc, fun i d hlist => ?crtc, fun i d hlist => ?blt,
    fun i d hlist => ?bank, fun a d s => ⟨rfl, rfl, rfl, rfl, rfl, rfl, rfl, rfl, rfl, rfl⟩⟩
  case seq =>
    have h : seqAssigned (indexAddr i) = false := by
      simpa [seqAssigned, indexLow] using And.intro (And.intro hx hy) hlist
    exact decode_write_and_read fun rw => (decode_txnWord_seq ..).trans (decodeSeq_of_unassigned rw d h)
  case gc =>
    have h : gcAssigned (indexAddr i) = false := by simpa [gcAssigned] using hlist
    exact decode_write_and_read fun rw => (decode_txnWord_gc ..).trans (decodeGc_of_unassigned rw d h)
  case crtc =>
    have h : crtcAssigned (indexAddr i) = false := by simpa [crtcAssigned] using hlist
    exact decode_write_and_read fun rw => (decode_txnWord_crtc ..).trans (decodeCrtc_of_unassigned rw d h)
  case blt =>
    have h := bltAssigned_eq_false hlist
    exact decode_write_and_read fun rw => (decode_txnWord_blt ..).trans (decodeBlt_of_unassigned rw d h)
  case bank =>
    have h : bankAssigned (indexAddr i) = false := by
      have h0 : i ≠ 0 := by bv_omega
      have h1 : i ≠ 1 := by bv_omega
      simpa [bankAssigned] using And.intro h0 h1
    exact decode_write_and_read fun rw => (decode_txnWord_bank ..).trans (decodeBank_of_unassigned rw d h)

end Sys2Proof.Machine
end

section
/-! The apertures (40_register_file_bank.md R152, R153, R155, R156; 20_memory.md R61..R64). -/

namespace Sys2Proof.Machine

/-- The banked address in arithmetic: the bank is the high byte, the offset is taken modulo 64 KiB (20_memory.md R61). -/
theorem bankedAddr_toNat (bank : Byte) (o : Addr) : (bankedAddr bank o).toNat = bank.toNat * 0x10000 + o.toNat % 0x10000 := by
  have hmask : o.toNat &&& 0xFFFF = o.toNat % 0x10000 := Nat.and_two_pow_sub_one_eq_mod _ 16
  have hshift : (bank.setWidth 24 <<< 16 : Addr).toNat = bank.toNat <<< 16 := by
    have := bank.isLt
    simp only [BitVec.toNat_shiftLeft, BitVec.toNat_setWidth, Nat.shiftLeft_eq]
    omega
  calc (bankedAddr bank o).toNat
      = bank.toNat <<< 16 ||| o.toNat &&& 0xFFFF := by simp [bankedAddr, hshift]
    _ = bank.toNat <<< 16 ||| o.toNat % 0x10000 := by rw [hmask]
    _ = bank.toNat * 0x10000 + o.toNat % 0x10000 := by
        rw [← Nat.shiftLeft_add_eq_or_of_lt (Nat.mod_lt _ (by norm_num)), Nat.shiftLeft_eq]

/-- Settles O22: the addresses in arithmetic, and the law of a VRAM write. -/
theorem bankedAperture : Obligations.BankedAperture := by
  intro o d p s
  refine ⟨decode_txnWord_mem .., decode_txnWord_mem .., ?read, _, rfl, rfl, fun a => ?written⟩
  case read =>
    rw [← bankedAddr_toNat]
    rfl
  case written => rw [← bankedAddr_toNat, memRead_memWrite]

/-- Settles O23: the law of a VRAM write at the offset itself. -/
theorem linearAperture : Obligations.LinearAperture := by
  intro o d p s
  exact ⟨decode_txnWord_lfb .., decode_txnWord_lfb .., rfl, _, rfl, rfl, fun a => memRead_memWrite s o.toNat a d⟩

end Sys2Proof.Machine
end

section
/-! The lock rule (40_register_file_bank.md R120, R121; 60_exceptions.md R327): a shut gate discards every register write, and
what is left of the instructions while the chip is locked reaches no protected register. -/

namespace Sys2Proof.Machine

/-- A write of a register whose gate is shut changes nothing at all (40_register_file_bank.md R120). -/
theorem exec_of_gateShut {i : Instr} {r : Reg} {s : State} (hi : writtenRegister i = some r) (hshut : GateShut s r) :
    exec i s = .next s := by
  cases i with
  | wSeqExtMode | wSeqScratch1 | wSeqScratch2 | wSeqScratch3 | wSeqCursorAttr | wSeqCursorAddr
  | wSeqVclkNum0 | wSeqVclkNum1 | wSeqVclkNum2 | wSeqVclkNum3
  | wSeqVclkDenom0 | wSeqVclkDenom1 | wSeqVclkDenom2 | wSeqVclkDenom3
  | wGcBg0 | wGcFg0 | wGcModeExt | wGcBg1 | wGcFg1 | wCrtcExt19 | wCrtcExt1A | wCrtcExt1B | wBankRd | wBankWr
  | wBltWidthLo | wBltWidthHi | wBltHeightLo | wBltHeightHi | wBltDpitchLo | wBltDpitchHi | wBltSpitchLo | wBltSpitchHi
  | wBltDest0 | wBltDest1 | wBltDest2 | wBltSrc0 | wBltSrc1 | wBltSrc2
  | wBltMode | wBltRop | wBltTcolLo | wBltTcolHi | wBltTmaskLo | wBltTmaskHi =>
    cases hi
    exact congrArg _ (writeStored_shut _ hshut)
  | wSeqLock | wSeqCursorX | wSeqCursorY | wBltStatus | wBltData
  | wDacMask | wDacIndexR | wDacIndexW | wDacData | wDacOverlay =>
    cases hi
    exact congrArg _ (gated_shut _ hshut)
  | wCrtcId => rfl
  | _ => cases hi

/-- What a locked chip keeps: the registers protected by default, and an idle engine. `GC.BG0`, `GC.FG0`, the extended palette
and the progress of a transfer may change. -/
def KeepsProtected (s t : State) : Prop :=
  t.rf = { s.rf with bg0 := t.rf.bg0, fg0 := t.rf.fg0 } ∧
  t.cur = { s.cur with extPalette := t.cur.extPalette } ∧
  t.blt = { s.blt with
    fsm := t.blt.fsm, sourceCurrent := t.blt.sourceCurrent, destCurrent := t.blt.destCurrent
    pixelCount := t.blt.pixelCount, scanCount := t.blt.scanCount
    systemBuffer := t.blt.systemBuffer, systemCount := t.blt.systemCount } ∧
  (s.blt.fsm = .idle → t.blt = s.blt)

namespace KeepsProtected

variable {s t : State}

theorem refl (s : State) : KeepsProtected s s := ⟨rfl, rfl, rfl, fun _ => rfl⟩

theorem of_eq (hrf : t.rf = s.rf) (hcur : t.cur = s.cur) (hblt : t.blt = s.blt) : KeepsProtected s t := by
  unfold KeepsProtected
  rw [hrf, hcur, hblt]
  exact refl s

theorem gated {r : Reg} (h : KeepsProtected s t) : KeepsProtected s (gated r s t) := by
  rcases gated_cases r s t with ⟨-, ht⟩ | ⟨-, -, ht⟩ <;> rw [ht]
  · exact h
  · exact refl s

theorem putStored_bg0 (d : Byte) (s : State) : KeepsProtected s (putStored .gcBg0 d s) := ⟨rfl, rfl, rfl, fun _ => rfl⟩

theorem putStored_fg0 (d : Byte) (s : State) : KeepsProtected s (putStored .gcFg0 d s) := ⟨rfl, rfl, rfl, fun _ => rfl⟩

theorem readStored (r : StoredReg) (s : State) : KeepsProtected s (readStored r s) := by
  rcases readStored_cases r s with ⟨-, h⟩ | ⟨-, h⟩ <;> rw [h] <;> exact of_eq rfl rfl rfl

theorem maskAdvance (s : State) : KeepsProtected s (maskAdvance s) := by
  rcases maskAdvance_cases s with ⟨-, h⟩ | ⟨-, h⟩ <;> rw [h] <;> exact of_eq rfl rfl rfl

/-- A component written to the hidden palette is one of the extended palette's. -/
theorem writeComponent (sel : DacMode) (d : Byte) (s : State) : KeepsProtected s (writeComponent sel d s) := by
  cases sel with
  | normal => exact of_eq rfl rfl rfl
  | hidden => exact ⟨rfl, rfl, rfl, fun _ => rfl⟩

/-- A transfer in progress may move under a locked chip: only its progress changes. -/
theorem of_progress {m : Memory} {b : Blt} {buffer : BitVec 32} {count : Byte} (hbusy : s.blt.fsm ≠ .idle)
    (hp : OnlyProgress { s.blt with systemBuffer := buffer, systemCount := count } b) :
    KeepsProtected s { s with blt := b, vram := m } := by
  unfold OnlyProgress at hp
  refine ⟨rfl, rfl, ?_, fun hidle => absurd hidle hbusy⟩
  dsimp only
  rw [hp]

theorem sysFeed (d : Byte) (h : s.blt.fsm = .xferSys) : KeepsProtected s (sysFeed d s) := by
  rw [sysFeed_frame]
  exact of_progress (by simp [h]) (sysFeed_onlyProgress d s)

theorem byteOperation (f : Byte → Byte → Byte) (h : s.blt.fsm = .xferVram) : KeepsProtected s (byteOperation f s) := by
  rw [byteOperation_frame]
  exact of_progress (buffer := s.blt.systemBuffer) (count := s.blt.systemCount) (by simp [h])
    (byteOperation_onlyProgress f s)

theorem dataWrite (d : Byte) (s : State) : KeepsProtected s (if s.blt.fsm == .xferSys then Machine.sysFeed d s else s) := by
  split
  · next h => exact sysFeed d (by simpa using h)
  · exact refl s

theorem engineByte (code : Byte) (f : Byte → Byte → Byte) (s : State) : KeepsProtected s (engineByte code f s) := by
  rcases engineByte_cases code f s with ⟨hf, h⟩ | ⟨-, h⟩ <;> rw [h]
  · exact byteOperation _ hf
  · exact refl s

end KeepsProtected

/-- With the default table and the chip locked, every instruction but the write of `SEQ.LOCK` keeps what is protected: the
writes of the protected registers are discarded, the others do not reach them. -/
theorem exec_keepsProtected {i : Instr} {s : State} (htable : s.cfg.protectedRegs = Config.defaultProtected)
    (hlocked : s.rf.lockReg ≠ s.cfg.unlockKey) (hi : ∀ d, i ≠ .wSeqLock d) :
    ∃ t, exec i s = .next t ∧ KeepsProtected s t := by
  have hshut (r : Reg) (hr : r ∈ Config.defaultProtected) : GateShut s r := ⟨htable ▸ hr, hlocked⟩
  cases i with
  -- the writes of the protected registers
  | wSeqExtMode | wSeqScratch1 | wSeqScratch2 | wSeqScratch3 | wSeqCursorAttr | wSeqCursorAddr
  | wSeqVclkNum0 | wSeqVclkNum1 | wSeqVclkNum2 | wSeqVclkNum3
  | wSeqVclkDenom0 | wSeqVclkDenom1 | wSeqVclkDenom2 | wSeqVclkDenom3 | wSeqCursorX | wSeqCursorY
  | wGcModeExt | wGcBg1 | wGcFg1 | wCrtcExt19 | wCrtcExt1A | wCrtcExt1B | wBankRd | wBankWr
  | wBltWidthLo | wBltWidthHi | wBltHeightLo | wBltHeightHi | wBltDpitchLo | wBltDpitchHi | wBltSpitchLo | wBltSpitchHi
  | wBltDest0 | wBltDest1 | wBltDest2 | wBltSrc0 | wBltSrc1 | wBltSrc2
  | wBltMode | wBltRop | wBltTcolLo | wBltTcolHi | wBltTmaskLo | wBltTmaskHi | wBltStatus =>
    exact ⟨s, exec_of_gateShut rfl (hshut _ (by decide)), .refl s⟩
  -- the writes of the other registers
  | wSeqLock d => exact absurd rfl (hi d)
  | wGcBg0 => exact ⟨_, rfl, .gated (.putStored_bg0 _ _)⟩
  | wGcFg0 => exact ⟨_, rfl, .gated (.putStored_fg0 _ _)⟩
  | wBltData => exact ⟨_, rfl, .gated (.dataWrite _ _)⟩
  | wDacMask => exact ⟨_, rfl, .gated (.maskAdvance _)⟩
  | wDacIndexR | wDacIndexW => exact ⟨_, rfl, .gated (.of_eq rfl rfl rfl)⟩
  | wDacData | wDacOverlay => exact ⟨_, rfl, .gated (.writeComponent _ _ _)⟩
  -- the reads
  | rSeqExtMode | rSeqScratch1 | rSeqScratch2 | rSeqScratch3 | rSeqCursorAttr | rSeqCursorAddr
  | rSeqVclkNum0 | rSeqVclkNum1 | rSeqVclkNum2 | rSeqVclkNum3
  | rSeqVclkDenom0 | rSeqVclkDenom1 | rSeqVclkDenom2 | rSeqVclkDenom3
  | rGcBg0 | rGcFg0 | rGcModeExt | rGcBg1 | rGcFg1 | rCrtcExt19 | rCrtcExt1A | rCrtcExt1B | rBankRd | rBankWr
  | rBltWidthLo | rBltWidthHi | rBltHeightLo | rBltHeightHi | rBltDpitchLo | rBltDpitchHi | rBltSpitchLo | rBltSpitchHi
  | rBltDest0 | rBltDest1 | rBltDest2 | rBltSrc0 | rBltSrc1 | rBltSrc2
  | rBltMode | rBltRop | rBltTcolLo | rBltTcolHi | rBltTmaskLo | rBltTmaskHi =>
    exact ⟨_, rfl, .readStored _ _⟩
  | rDacMask => exact ⟨_, rfl, .maskAdvance _⟩
  | rSeqLock | rSeqCursorX | rSeqCursorY | rCrtcId | rBltStatus | rBltData | rMem | rLfb
  | rDacIndexR | rDacIndexW | rDacData | rDacOverlay
  | rSeqUnassigned | rGcUnassigned | rCrtcUnassigned | rDacUnassigned | rBltUnassigned | rBankUnassigned =>
    exact ⟨_, rfl, .of_eq rfl rfl rfl⟩
  -- the writes of VRAM and the words without a register
  | wMem | wLfb | wCrtcId | wSeqUnassigned | wGcUnassigned | wCrtcUnassigned | wDacUnassigned | wBltUnassigned
  | wBankUnassigned | invalidSpace | invalidBit33 | invalidBit34 | invalidBit35 =>
    exact ⟨_, rfl, .of_eq rfl rfl rfl⟩
  -- the raster-operation rows
  | ropZero | ropAnd | ropNop | ropSrcAndNotDst | ropNotDst | ropCopy | ropOne | ropNotSrcAndDst
  | ropXor | ropOr | ropNor | ropXnor | ropSrcOrNotDst | ropNotSrc | ropNotSrcOrDst | ropNand | ropDefault =>
    exact ⟨_, rfl, .engineByte _ _ _⟩

/-- Settles O45: the gate of every register, and what a locked chip keeps. -/
theorem lockedChipKeepsProtectedState : Obligations.LockedChipKeepsProtectedState :=
  ⟨fun _ _ _ => exec_of_gateShut, fun _ _ => exec_keepsProtected⟩

end Sys2Proof.Machine
end

section
/-! The DAC ports (41_hidden_dac.md R171..R182): the mask port's phase machine and its closed form over a run of accesses, the
phase reset of every other port, the index ports and the palette accesses. -/

namespace Sys2Proof.Machine

/-- What a write behind an open gate answers. -/
theorem next_gated_open {r : Reg} {s : State} (t : State) (h : GateOpen s r) :
    (.next (gated r s t) : Result) = .next t :=
  congrArg _ (gated_open t h)

/-! ### The phase machine -/

/-- The hidden DAC after `n` mask-port accesses in a row (41_hidden_dac.md R171): the phase counts modulo `cycle`, and the mode
is the other one after an odd number of wraps. -/
def HiddenDac.afterMaskAccesses (cycle n : Nat) (h : HiddenDac) : HiddenDac where
  mode := if (h.phase + n) / cycle % 2 = 0 then h.mode else toggleMode h.mode
  phase := (h.phase + n) % cycle

theorem HiddenDac.afterMaskAccesses_zero {cycle : Nat} {h : HiddenDac} (hphase : h.phase < cycle) :
    h.afterMaskAccesses cycle 0 = h := by
  simp [afterMaskAccesses, Nat.div_eq_of_lt hphase, Nat.mod_eq_of_lt hphase]

/-- The phase machine changes nothing but the hidden DAC. -/
theorem maskAdvance_frame (s : State) : maskAdvance s = { s with hdac := (maskAdvance s).hdac } := by
  rcases maskAdvance_cases s with ⟨-, h⟩ | ⟨-, h⟩ <;> rw [h]

theorem maskAdvance_hdac (s : State) : (maskAdvance s).hdac =
    if s.hdac.phase + 1 = s.cfg.hdacCycle then
      { mode := if s.hdac.mode = .normal then .hidden else .normal, phase := 0 }
    else { mode := s.hdac.mode, phase := s.hdac.phase + 1 } := by
  rcases maskAdvance_cases s with ⟨hwrap, h⟩ | ⟨hnowrap, h⟩
  · rw [h, if_pos hwrap, toggleMode_eq]
  · rw [h, if_neg hnowrap]

theorem maskAdvance_phase_lt {s : State} (hphase : s.hdac.phase < s.cfg.hdacCycle) :
    (maskAdvance s).hdac.phase < s.cfg.hdacCycle := by
  rcases maskAdvance_cases s with ⟨-, h⟩ | ⟨hnowrap, h⟩ <;> rw [h]
  · exact Nat.zero_lt_of_lt hphase
  · exact Nat.lt_of_le_of_ne hphase hnowrap

/-- One access and then `n` are `n + 1`: a wrap takes one cycle off the count and toggles the mode. -/
theorem afterMaskAccesses_maskAdvance (n : Nat) {s : State} (hphase : s.hdac.phase < s.cfg.hdacCycle) :
    (maskAdvance s).hdac.afterMaskAccesses s.cfg.hdacCycle n =
      s.hdac.afterMaskAccesses s.cfg.hdacCycle (n + 1) := by
  rcases maskAdvance_cases s with ⟨hwrap, h⟩ | ⟨-, h⟩ <;> rw [h] <;> unfold HiddenDac.afterMaskAccesses
  · have hcount : s.hdac.phase + (n + 1) = n + s.cfg.hdacCycle := by omega
    have hwraps : (n + s.cfg.hdacCycle) / s.cfg.hdacCycle = n / s.cfg.hdacCycle + 1 :=
      Nat.add_div_right n (Nat.zero_lt_of_lt hphase)
    rw [hcount, hwraps, Nat.add_mod_right]
    rcases Nat.mod_two_eq_zero_or_one (n / s.cfg.hdacCycle) with hpar | hpar <;> simp [Nat.add_mod, hpar]
  · simp only [Nat.add_assoc, Nat.add_comm 1 n]

/-- An access of the mask port past the gate runs the phase machine; the parameters and the registers, and so the gate, stay. -/
theorem exec_maskAccess {i : Instr} {s : State} (hi : isMaskAccess i = true) (hopen : GateOpen s .dacMask) :
    ∃ t, exec i s = .next t ∧ t.hdac = (maskAdvance s).hdac ∧ t.cfg = s.cfg ∧ t.rf = s.rf := by
  have hkept : (maskAdvance s).cfg = s.cfg ∧ (maskAdvance s).rf = s.rf := by
    rw [maskAdvance_frame]
    exact ⟨rfl, rfl⟩
  cases i with
  | wDacMask => exact ⟨_, next_gated_open _ hopen, rfl, hkept⟩
  | rDacMask => exact ⟨_, rfl, rfl, hkept⟩
  | _ => cases hi

/-- A run of mask-port accesses in closed form. -/
theorem execAll_maskAccesses {is : List Instr} {s : State} (hall : ∀ i ∈ is, isMaskAccess i = true)
    (hopen : GateOpen s .dacMask) (hphase : s.hdac.phase < s.cfg.hdacCycle) :
    ∃ t, execAll is s = some t ∧ t.hdac = s.hdac.afterMaskAccesses s.cfg.hdacCycle is.length := by
  induction is generalizing s with
  | nil => exact ⟨s, rfl, (HiddenDac.afterMaskAccesses_zero hphase).symm⟩
  | cons i is ih =>
    obtain ⟨hi, his⟩ := List.forall_mem_cons.mp hall
    obtain ⟨u, hexec, hhdac, hcfg, hrf⟩ := exec_maskAccess hi hopen
    obtain ⟨t, hrun, ht⟩ := ih (s := u) his (by simpa only [GateOpen, hcfg, hrf] using hopen)
      (by simpa only [hhdac, hcfg] using maskAdvance_phase_lt hphase)
    refine ⟨t, by simp only [execAll, hexec, hrun], ?_⟩
    rw [ht, hhdac, hcfg, afterMaskAccesses_maskAdvance _ hphase, List.length_cons]

/-- Settles O15: the closed form, field by field. -/
theorem maskAccessesCountTheCycle : Obligations.MaskAccessesCountTheCycle := by
  intro is s hall hopen hphase
  obtain ⟨t, hrun, ht⟩ := execAll_maskAccesses hall hopen hphase
  exact ⟨t, hrun, by rw [ht]; rfl, by rw [ht, ← toggleMode_eq]; rfl⟩

/-- Settles O14: the write and the read both run the phase machine. -/
theorem maskPort : Obligations.MaskPort := by
  refine ⟨decodesAt_of_represents fun _ => ⟨⟨rfl, rfl⟩, rfl, rfl⟩, by decide, fun d p s h hh => ?_⟩
  have hadvance : maskAdvance s = { s with hdac := h } := by rw [maskAdvance_frame, maskAdvance_hdac, ← hh]
  refine ⟨fun hopen => ?write, ?read⟩
  case write =>
    refine (next_gated_open _ hopen).trans ?_
    rw [hadvance]
  case read =>
    change (.next (answerByte s.dac.pelMask (maskAdvance s)) : Result) = _
    rw [hadvance]
    rfl

/-! ### The other ports -/

theorem writeComponent_hdac (sel : DacMode) (d : Byte) (s : State) :
    (writeComponent sel d s).hdac = { s.hdac with phase := 0 } := by
  simp [writeComponent]

/-- Settles O16: each of these transactions ends in the phase reset. -/
theorem otherDacAccessesBreakTheSequence : Obligations.OtherDacAccessesBreakTheSequence := by
  refine ⟨fun i r hdac hwritten => ?unprotected, fun i s hdac hmask hopen => ?phase⟩
  case unprotected =>
    cases i with
    | wDacMask | wDacIndexR | wDacIndexW | wDacData | wDacOverlay =>
      cases hwritten
      decide
    | rDacMask | rDacIndexR | rDacIndexW | rDacData | rDacOverlay | wDacUnassigned | rDacUnassigned => cases hwritten
    | _ => cases hdac
  case phase =>
    cases i with
    | wDacMask | rDacMask => cases hmask
    | wDacIndexR | wDacIndexW => exact ⟨_, next_gated_open _ (hopen _ rfl), rfl⟩
    | wDacData | wDacOverlay => exact ⟨_, next_gated_open _ (hopen _ rfl), writeComponent_hdac ..⟩
    | rDacIndexR | rDacIndexW | rDacData | rDacOverlay | wDacUnassigned | rDacUnassigned => exact ⟨_, rfl, rfl⟩
    | _ => cases hdac

/-- Settles O12: the `dacAssigned` test tells a port of 5 and up from the rows. -/
theorem unassignedDacPorts : Obligations.UnassignedDacPorts := by
  refine ⟨fun i d hport => ?_, fun a d s => ⟨rfl, rfl⟩⟩
  have h : dacAssigned (indexAddr i) = false := by
    rw [← Bool.not_eq_true]
    intro hassigned
    obtain ⟨j, hj, hij⟩ := (listed_iff _ _).mp hassigned
    obtain rfl : i = j := by simpa using congrArg addrIndex hij
    fin_cases hj <;> simp at hport
  exact decode_write_and_read fun rw => (decode_txnWord_dac ..).trans (decodeDac_of_unassigned rw d h)

/-- Settles O18: the writes are behind the gate; the reads are by definition. -/
theorem dacIndexPorts : Obligations.DacIndexPorts :=
  ⟨decodesAt_of_represents fun _ => ⟨⟨rfl, rfl⟩, rfl, rfl⟩, decodesAt_of_represents fun _ => ⟨⟨rfl, rfl⟩, rfl, rfl⟩,
    fun _ _ _ => ⟨next_gated_open _, rfl, next_gated_open _, rfl⟩⟩

/-! ### Names of palette entries -/

theorem extIndex_toNat (i : Byte) : (extIndex i).toNat = i.toNat % 16 := by
  simp [extIndex]

/-- The four bits the model takes are the spec's `idx & 0x0F` (41_hidden_dac.md R182). -/
theorem extIndex_eq_iff (i j : Byte) : extIndex i = extIndex j ↔ i &&& 0x0F = j &&& 0x0F := by
  have hmask (k : Byte) : (k &&& 0x0F).toNat = k.toNat % 16 := Nat.and_two_pow_sub_one_eq_mod _ 4
  rw [← BitVec.toNat_inj, ← BitVec.toNat_inj, extIndex_toNat, extIndex_toNat, hmask, hmask]

section
variable {m m' : DacMode} {i i' : Byte}

theorem SameEntry.paletteEntry_eq (h : SameEntry m i m' i') (s : State) : paletteEntry m i s = paletteEntry m' i' s := by
  obtain ⟨rfl, hindex⟩ := h
  cases m with
  | normal => exact congrArg (paletteEntry .normal · s) hindex
  | hidden => simp only [paletteEntry, (extIndex_eq_iff i i').mpr hindex]

theorem paletteEntry_putEntry_self (e : Rgb) (s : State) : paletteEntry m i (putEntry m i e s) = e := by
  cases m with
  | normal => rw [paletteEntry_putEntry_normal, if_pos rfl]
  | hidden => rw [paletteEntry_putEntry_hidden, if_pos rfl]

/-- A replaced entry is no other than the one it names. -/
theorem paletteEntry_putEntry_of_not_sameEntry (h : ¬ SameEntry m i m' i') (e : Rgb) (s : State) :
    paletteEntry m i (putEntry m' i' e s) = paletteEntry m i s := by
  by_cases hm : m' = m
  · subst hm
    cases m' with
    | normal => exact (paletteEntry_putEntry_normal ..).trans (if_neg fun hi => h ⟨rfl, hi.symm⟩)
    | hidden =>
      exact (paletteEntry_putEntry_hidden ..).trans (if_neg fun hi => h ⟨rfl, (extIndex_eq_iff i i').mp hi.symm⟩)
  · exact paletteEntry_putEntry_of_ne hm ..

end

/-! ### Palette accesses -/

theorem nextIndex_eq (c : Component) (i : Byte) : nextIndex c i = if c = .blue then i + 1 else i := by
  cases c <;> rfl

section
variable (sel m : DacMode) (i d : Byte) (s : State)

/-- The counters are no part of the palettes. -/
theorem paletteEntry_writeComponent : paletteEntry m i (writeComponent sel d s) =
    paletteEntry m i (putEntry sel s.dac.writeIndex
      (setComponent s.dac.wcomp (d &&& s.cfg.dacCompMask) (paletteEntry sel s.dac.writeIndex s)) s) := by
  cases m <;> rfl

theorem component_writeComponent_self :
    component s.dac.wcomp (paletteEntry sel s.dac.writeIndex (writeComponent sel d s)) = d &&& s.cfg.dacCompMask := by
  rw [paletteEntry_writeComponent, paletteEntry_putEntry_self, component_setComponent_self]

variable {sel m i}

/-- A component write keeps the other entries, and the other components of its own. -/
theorem component_writeComponent_other {c : Component}
    (h : ¬ (SameEntry m i sel s.dac.writeIndex ∧ c = s.dac.wcomp)) :
    component c (paletteEntry m i (writeComponent sel d s)) = component c (paletteEntry m i s) := by
  by_cases hentry : SameEntry m i sel s.dac.writeIndex
  · have hc : c ≠ s.dac.wcomp := fun hc => h ⟨hentry, hc⟩
    rw [hentry.paletteEntry_eq, hentry.paletteEntry_eq, paletteEntry_writeComponent, paletteEntry_putEntry_self,
      component_setComponent_other hc]
  · rw [paletteEntry_writeComponent, paletteEntry_putEntry_of_not_sameEntry hentry]

theorem writeComponent_frame : writeComponent sel d s = { s with
    hdac := { s.hdac with phase := 0 }
    dac := { s.dac with
      palette := (writeComponent sel d s).dac.palette
      wcomp := (writeComponent sel d s).dac.wcomp
      writeIndex := (writeComponent sel d s).dac.writeIndex }
    cur := { s.cur with extPalette := (writeComponent sel d s).cur.extPalette } } := by
  cases sel <;> rfl

end

/-- Settles O19: the laws of a component write for the palette the mode selects. -/
theorem dacDataWrite : Obligations.DacDataWrite := by
  refine ⟨decodesAt_of_represents fun _ => ⟨⟨rfl, rfl⟩, rfl, rfl⟩, fun d s hopen => ?_⟩
  refine ⟨writeComponent s.hdac.mode d s, next_gated_open _ hopen, component_writeComponent_self ..,
    fun m i c h => component_writeComponent_other d s h, ?counter, nextIndex_eq .., writeComponent_frame d s⟩
  case counter =>
    change nextComponent s.dac.wcomp = _
    cases s.dac.wcomp <;> rfl

/-- Settles O20: the entry is `Entry(hdac.mode, read_index)`; the component, the counter and the index go by the current
component. -/
theorem dacDataRead : Obligations.DacDataRead := by
  intro p s e he
  have hentry : paletteEntry s.hdac.mode s.dac.readIndex s = e := by
    rw [he]
    cases s.hdac.mode with
    | normal => rfl
    | hidden => simp only [paletteEntry, extIndex_toNat]
  change (.next (readComponent s.hdac.mode s) : Result) = _
  rw [readComponent, hentry, nextIndex_eq]
  cases s.dac.rcomp <;> rfl

/-- Settles O21: a component access of the hidden palette reads nothing of `hdac`, and sets its phase alone. -/
theorem overlayPortIsTheHiddenPalette : Obligations.OverlayPortIsTheHiddenPalette := by
  refine ⟨decodesAt_of_represents fun _ => ⟨⟨rfl, rfl⟩, rfl, rfl⟩, fun d p s => ⟨fun hdata hoverlay => ?write, ?read⟩⟩
  case write =>
    exact ⟨_, next_gated_open (s := { s with hdac := { s.hdac with mode := .hidden } }) _ hdata,
      next_gated_open _ hoverlay⟩
  case read => exact ⟨_, rfl, rfl⟩

end Sys2Proof.Machine
end

section
/-! Non-interference of the hidden DAC (41_hidden_dac.md R174): the operations outside the DAC port family commute with every
replacement of `hdac`, so they neither read nor write it. -/

namespace Sys2Proof.Machine

/-- The operation does the same whatever `hdac` is, and passes `hdac` on. -/
def IgnoresHdac (f : State → State) : Prop :=
  ∀ (s : State) (h : HiddenDac), f { s with hdac := h } = { f s with hdac := h }

namespace IgnoresHdac

/-- Replacing `hdac` by itself shows that the operation keeps it. -/
theorem hdac_eq {f : State → State} (hf : IgnoresHdac f) (s : State) : (f s).hdac = s.hdac := by
  have h := congrArg State.hdac (hf s s.hdac)
  exact h

/-- The outcome of an instruction whose meaning is such an operation. -/
theorem outcome {i : Instr} {f : State → State} (hf : IgnoresHdac f) (hexec : ∀ s, exec i s = .next (f s)) (s : State)
    (h : HiddenDac) :
    ∃ t, exec i s = .next t ∧ t.hdac = s.hdac ∧ exec i { s with hdac := h } = .next { t with hdac := h } :=
  ⟨f s, hexec s, hf.hdac_eq s, (hexec _).trans (congrArg _ (hf s h))⟩

/-- A choice between two such operations by a test that does not read `hdac`. -/
theorem choice {c : State → Bool} {f g : State → State}
    (hc : ∀ (s : State) (h : HiddenDac), c { s with hdac := h } = c s) (hf : IgnoresHdac f) (hg : IgnoresHdac g) :
    IgnoresHdac fun s => if c s then f s else g s := by
  intro s h
  dsimp only
  rw [hc]
  split
  · exact hf s h
  · exact hg s h

theorem unchanged : IgnoresHdac fun s => s := fun _ _ => rfl

theorem gated (r : Reg) {f : State → State} (hf : IgnoresHdac f) : IgnoresHdac fun s => gated r s (f s) :=
  choice (c := (writeEnabled · r)) (fun _ _ => rfl) hf unchanged

theorem putStored (r : StoredReg) (v : Config → Byte) : IgnoresHdac fun s => putStored r (v s.cfg) s := by
  intro s h
  cases r <;> rfl

theorem writeStored (r : StoredReg) (d : Byte) : IgnoresHdac (writeStored r d) :=
  choice (c := fun s => registerPresent r s.cfg) (fun _ _ => rfl) (.gated _ (putStored r fun c => d &&& writeMask r c))
    unchanged

theorem answerStored (r : StoredReg) : IgnoresHdac fun s => answerByte (storedByte r s) s := by
  intro s h
  cases r <;> rfl

theorem readStored (r : StoredReg) : IgnoresHdac (readStored r) :=
  choice (c := fun s => registerPresent r s.cfg) (fun _ _ => rfl) (answerStored r) fun _ _ => rfl

/-! ### The engine -/

theorem commit (f : Byte → Byte → Byte) (sb : Byte) : IgnoresHdac (commit f sb) := by
  intro s h
  unfold Machine.commit
  dsimp only
  split <;> rfl

theorem advanceCommit (f : Byte → Byte → Byte) (sb : Byte) : IgnoresHdac fun s => advance (Machine.commit f sb s) := by
  intro s h
  dsimp only
  rw [commit f sb s h]
  rfl

theorem byteOperation (f : Byte → Byte → Byte) : IgnoresHdac (byteOperation f) := fun s h =>
  advanceCommit f (sourceOperand s) { s with blt := { s.blt with sourceCurrent := sourceAddress s } } h

theorem runVram (n : Nat) : IgnoresHdac (runVram n) := by
  intro s h
  induction n generalizing s with
  | zero => rfl
  | succ n ih =>
    by_cases hx : s.blt.fsm = .xferVram
    · rw [runVram_succ n hx, runVram_succ n (s := { s with hdac := h }) hx, byteOperation, ih]
      rfl
    · rw [runVram_done _ hx, runVram_done _ (s := { s with hdac := h }) hx]

theorem bltStart : IgnoresHdac bltStart := by
  intro s h
  unfold Machine.bltStart leaveArmed
  dsimp only
  split
  · rfl
  · split
    · rfl
    · exact runVram _ { s with blt := { armBlt s.blt with fsm := .xferVram } } h

theorem expandFeed (b : Byte) (y0 : Word16) (fuel n : Nat) : IgnoresHdac (expandFeed b y0 fuel n) := by
  intro s h
  induction fuel generalizing n s with
  | zero => rfl
  | succ fuel ih =>
    unfold Machine.expandFeed
    dsimp only
    split
    · rw [← ih, ← advanceCommit]
      rfl
    · rfl

theorem sysFeed (b : Byte) : IgnoresHdac (sysFeed b) := by
  intro s h
  have huncount : ∀ fed fed' : State, fed' = { fed with hdac := h } →
      { fed' with blt := { fed'.blt with systemCount := 0 } } =
        { fed with hdac := h, blt := { fed.blt with systemCount := 0 } } := by
    rintro fed _ rfl
    rfl
  unfold Machine.sysFeed
  dsimp only
  split
  · exact huncount _ _ (expandFeed _ _ _ _ (stageByte b s) h)
  · exact huncount _ _ (advanceCommit _ b (stageByte b s) h)

theorem statusWrite (d : Byte) : IgnoresHdac fun s => if statusStart d && !busy s then Machine.bltStart s else s :=
  choice (c := fun s => statusStart d && !busy s) (fun _ _ => rfl) bltStart unchanged

theorem dataWrite (d : Byte) : IgnoresHdac fun s => if s.blt.fsm == .xferSys then Machine.sysFeed d s else s :=
  choice (c := fun s => s.blt.fsm == .xferSys) (fun _ _ => rfl) (sysFeed d) unchanged

theorem engineByte (code : Byte) (f : Byte → Byte → Byte) : IgnoresHdac (engineByte code f) := by
  intro s h
  unfold Machine.engineByte
  dsimp only
  split
  · exact byteOperation _ s h
  · rfl

end IgnoresHdac

/-- Settles O17: the meaning of every instruction outside the DAC space is an operation that commutes with replacing `hdac`. -/
theorem otherSpacesIgnoreTheHiddenDac : Obligations.OtherSpacesIgnoreTheHiddenDac := by
  intro i s h hi
  cases i with
  -- the stored-byte registers
  | wSeqExtMode | wSeqScratch1 | wSeqScratch2 | wSeqScratch3 | wSeqCursorAttr | wSeqCursorAddr
  | wSeqVclkNum0 | wSeqVclkNum1 | wSeqVclkNum2 | wSeqVclkNum3
  | wSeqVclkDenom0 | wSeqVclkDenom1 | wSeqVclkDenom2 | wSeqVclkDenom3
  | wGcBg0 | wGcFg0 | wGcModeExt | wGcBg1 | wGcFg1 | wCrtcExt19 | wCrtcExt1A | wCrtcExt1B | wBankRd | wBankWr
  | wBltWidthLo | wBltWidthHi | wBltHeightLo | wBltHeightHi | wBltDpitchLo | wBltDpitchHi | wBltSpitchLo | wBltSpitchHi
  | wBltDest0 | wBltDest1 | wBltDest2 | wBltSrc0 | wBltSrc1 | wBltSrc2
  | wBltMode | wBltRop | wBltTcolLo | wBltTcolHi | wBltTmaskLo | wBltTmaskHi =>
    exact IgnoresHdac.outcome (.writeStored _ _) (fun _ => rfl) s h
  | rSeqExtMode | rSeqScratch1 | rSeqScratch2 | rSeqScratch3 | rSeqCursorAttr | rSeqCursorAddr
  | rSeqVclkNum0 | rSeqVclkNum1 | rSeqVclkNum2 | rSeqVclkNum3
  | rSeqVclkDenom0 | rSeqVclkDenom1 | rSeqVclkDenom2 | rSeqVclkDenom3
  | rGcBg0 | rGcFg0 | rGcModeExt | rGcBg1 | rGcFg1 | rCrtcExt19 | rCrtcExt1A | rCrtcExt1B | rBankRd | rBankWr
  | rBltWidthLo | rBltWidthHi | rBltHeightLo | rBltHeightHi | rBltDpitchLo | rBltDpitchHi | rBltSpitchLo | rBltSpitchHi
  | rBltDest0 | rBltDest1 | rBltDest2 | rBltSrc0 | rBltSrc1 | rBltSrc2
  | rBltMode | rBltRop | rBltTcolLo | rBltTcolHi | rBltTmaskLo | rBltTmaskHi =>
    exact IgnoresHdac.outcome (.readStored _) (fun _ => rfl) s h
  -- the other registers
  | wSeqLock | wSeqCursorX | wSeqCursorY =>
    exact IgnoresHdac.outcome (.gated _ fun _ _ => rfl) (fun _ => rfl) s h
  | wBltStatus d => exact IgnoresHdac.outcome (.gated _ (.statusWrite d)) (fun _ => rfl) s h
  | wBltData d => exact IgnoresHdac.outcome (.gated _ (.dataWrite d)) (fun _ => rfl) s h
  -- the apertures, the other reads and the words without effect
  | wMem | wLfb | rMem | rLfb | rSeqLock | rSeqCursorX | rSeqCursorY | wCrtcId | rCrtcId | rBltStatus | rBltData
  | wSeqUnassigned | wGcUnassigned | wCrtcUnassigned | wBltUnassigned | wBankUnassigned
  | rSeqUnassigned | rGcUnassigned | rCrtcUnassigned | rBltUnassigned | rBankUnassigned
  | invalidSpace | invalidBit33 | invalidBit34 | invalidBit35 =>
    exact ⟨_, rfl, rfl, rfl⟩
  -- the raster-operation rows
  | ropZero | ropAnd | ropNop | ropSrcAndNotDst | ropNotDst | ropCopy | ropOne | ropNotSrcAndDst
  | ropXor | ropOr | ropNor | ropXnor | ropSrcOrNotDst | ropNotSrc | ropNotSrcOrDst | ropNand | ropDefault =>
    exact IgnoresHdac.outcome (.engineByte _ _) (fun _ => rfl) s h
  -- the DAC space
  | wDacMask | rDacMask | wDacIndexR | rDacIndexR | wDacIndexW | rDacIndexW | wDacData | rDacData
  | wDacOverlay | rDacOverlay | wDacUnassigned | rDacUnassigned => cases hi

end Sys2Proof.Machine
end

section
/-! The hardware cursor: its coordinate registers (42_cursor_overlay.md R190..R193), the place of its bitmap in VRAM (R197)
and what the overlay shows at a screen pixel (R198). -/

namespace Sys2Proof.Machine

/-! ### The coordinate registers -/

/-- What a write behind a shut gate answers. -/
theorem next_gated_shut {r : Reg} {s : State} (t : State) (h : GateShut s r) :
    (.next (gated r s t) : Result) = .next s :=
  congrArg _ (gated_shut t h)

/-- Settles O9: the words are the encodings of the four instructions; the writes are behind the gate; the reads are by
definition. -/
theorem cursorCoordinateRegisters : Obligations.CursorCoordinateRegisters := by
  refine ⟨by decide, by decide, fun low d p s => ?_⟩
  exact ⟨decodeOfEncode (.wSeqCursorX low d) rfl, decodeOfEncode (.rSeqCursorX low p) rfl,
    decodeOfEncode (.wSeqCursorY low d) rfl, decodeOfEncode (.rSeqCursorY low p) rfl,
    next_gated_open _, next_gated_shut _, rfl, next_gated_open _, next_gated_shut _, rfl⟩

/-! ### The overlay -/

section
variable {s : State} {px py : Int}

theorem cursorSide_eq {c : Config} {side : Nat} (h32 : c.cursorSize = .px32 → side = 32)
    (h64 : c.cursorSize = .px64 → side = 64) : cursorSide c = side := by
  unfold cursorSide
  split
  · next h => exact (h32 h).symm
  · next h => exact (h64 h).symm

theorem overlay_of_disabled (h : s.cur.attr.getLsbD 0 = false) : overlay s px py = .none :=
  if_pos h

theorem overlay_of_outside
    (h : px < s.cur.x.toNat ∨ s.cur.x.toNat + cursorSide s.cfg ≤ px ∨
      py < s.cur.y.toNat ∨ s.cur.y.toNat + cursorSide s.cfg ≤ py) : overlay s px py = .none := by
  by_cases hoff : s.cur.attr.getLsbD 0 = false
  · exact overlay_of_disabled hoff
  · exact (if_neg hoff).trans (if_pos (by omega))

/-- In the box of an enabled one-bit cursor the overlay is the bitmap's pixel at the offset from the cursor's position. -/
theorem overlay_of_inside {cx cy : Nat} (hon : s.cur.attr.getLsbD 0 = true) (hbpp : s.cfg.cursorBpp = .one)
    (hcx : cx < cursorSide s.cfg) (hcy : cy < cursorSide s.cfg) :
    overlay s (s.cur.x.toNat + cx) (s.cur.y.toNat + cy) = cursorPixel1 s cx cy := by
  have hoff : ¬ s.cur.attr.getLsbD 0 = false := by simp [hon]
  refine (if_neg hoff).trans ((if_neg (by omega)).trans ?_)
  simp [hbpp]

end

/-- Settles O59: a pixel is outside the box or at an offset inside it, where the one-bit bitmap answers. -/
theorem cursorOverlayPixel : Obligations.CursorOverlayPixel := by
  intro s px py side h32 h64
  obtain rfl : cursorSide s.cfg = side := cursorSide_eq h32 h64
  exact ⟨overlay_of_disabled, overlay_of_outside, fun cx cy hbpp hon hcx hcy => overlay_of_inside hon hbpp hcx hcy⟩

/-! ### The base of the bitmap -/

theorem cursorSlotMask_le (c : Config) : (cursorSlotMask c).toNat ≤ 63 := by
  unfold cursorSlotMask
  split <;> decide

/-- The 64 slots of 256 bytes fill the top 16 KiB, so in a VRAM that has these the base does not wrap. -/
theorem cursorBase_eq {s : State} (hvram : 0x4000 ≤ s.cfg.vramSize) :
    cursorBase s = s.cfg.vramSize - 0x4000 + (s.cur.addrReg &&& cursorSlotMask s.cfg).toNat * 256 := by
  have hslot : (s.cur.addrReg &&& cursorSlotMask s.cfg).toNat ≤ 63 :=
    Nat.and_le_right.trans (cursorSlotMask_le s.cfg)
  unfold cursorBase
  rw [Int.emod_eq_of_lt (by omega) (by omega)]
  omega

/-- The slot of a 32-pixel cursor: the six low bits. -/
theorem and_0x3F_toNat (a : Byte) : (a &&& 0x3F).toNat = a.toNat % 64 :=
  Nat.and_two_pow_sub_one_eq_mod _ 6

/-- The slot of a 64-pixel cursor, which takes four slots: the six low bits without the two lowest. -/
theorem and_0x3C_toNat (a : Byte) : (a &&& 0x3C).toNat = a.toNat % 64 / 4 * 4 := by
  have hquot : (a.toNat &&& 60) / 2 ^ 2 = a.toNat / 4 % 16 :=
    Nat.and_div_two_pow.trans (Nat.and_two_pow_sub_one_eq_mod _ 4)
  have hrem : (a.toNat &&& 60) % 2 ^ 2 = 0 := Nat.and_mod_two_pow.trans (Nat.and_zero _)
  change a.toNat &&& 60 = _
  omega

/-- Settles O60: the base without a wrap, and the two slot masks in arithmetic. -/
theorem cursorBitmapBase : Obligations.CursorBitmapBase := by
  intro s hvram
  refine ⟨fun hsize => ?px32, fun hsize => ?px64⟩
  case px32 => rw [cursorBase_eq hvram, cursorSlotMask, hsize, and_0x3F_toNat]
  case px64 => rw [cursorBase_eq hvram, cursorSlotMask, hsize, and_0x3C_toNat]

end Sys2Proof.Machine
end

section
/-! The registers of the BLT block (43_blt_registers.md R210..R233): the operand registers by the stored-byte rule, the status
register, and the data-feed port while no transfer waits for a byte. -/

namespace Sys2Proof.Machine

/-! ### The operand registers -/

/-- Replacing bits [7:0] keeps the two high bytes as one slice. -/
theorem setAddrByte0_eq (a : Addr) (b : Byte) : setAddrByte0 a b = a.extractLsb' 8 16 ++ b :=
  congrArg (· ++ b) (BitVec.extractLsb'_append_extractLsb'_eq_extractLsb' rfl)

/-- Replacing bits [23:16] keeps the two low bytes as one slice. -/
theorem setAddrByte2_eq (a : Addr) (b : Byte) : setAddrByte2 a b = b ++ a.extractLsb' 0 16 :=
  BitVec.append_assoc.trans (congrArg (b ++ ·) (BitVec.extractLsb'_append_extractLsb'_eq_extractLsb' rfl))

/-- Settles O5: every byte by the plain rule. -/
theorem bltExtentAndPitchRegisters : Obligations.BltExtentAndPitchRegisters := by
  refine ⟨?widthLo, ?widthHi, ?heightLo, ?heightHi, ?dpitchLo, ?dpitchHi, ?spitchLo, ?spitchHi⟩
  case widthLo | widthHi | heightLo | heightHi | dpitchLo | dpitchHi | spitchLo | spitchHi =>
    exact .of_rows (fun _ => ⟨⟨rfl, rfl⟩, rfl, rfl⟩) (by decide) (fun _ => rfl) (fun _ _ => rfl) (fun _ _ => rfl)
      (fun _ => rfl) (fun _ _ => rfl) (fun _ => rfl)

/-- Settles O6: every byte by the plain rule; a write of an outer byte keeps the other two as one slice. -/
theorem bltAddressRegisters : Obligations.BltAddressRegisters := by
  refine ⟨?dest0, ?dest1, ?dest2, ?src0, ?src1, ?src2⟩
  case dest0 | src0 =>
    exact .of_rows (fun _ => ⟨⟨rfl, rfl⟩, rfl, rfl⟩) (by decide) (fun _ => rfl) (fun _ _ => rfl) (fun _ _ => rfl)
      (fun _ => rfl) (fun _ _ => by rw [← setAddrByte0_eq]; rfl) (fun _ => rfl)
  case dest1 | src1 =>
    exact .of_rows (fun _ => ⟨⟨rfl, rfl⟩, rfl, rfl⟩) (by decide) (fun _ => rfl) (fun _ _ => rfl) (fun _ _ => rfl)
      (fun _ => rfl) (fun _ _ => rfl) (fun _ => rfl)
  case dest2 | src2 =>
    exact .of_rows (fun _ => ⟨⟨rfl, rfl⟩, rfl, rfl⟩) (by decide) (fun _ => rfl) (fun _ _ => rfl) (fun _ _ => rfl)
      (fun _ => rfl) (fun _ _ => by rw [← setAddrByte2_eq]; rfl) (fun _ => rfl)

/-- Settles O7: every byte by the plain rule. -/
theorem bltModeRopAndKeyRegisters : Obligations.BltModeRopAndKeyRegisters := by
  refine ⟨?mode, ?rop, ?tcolLo, ?tcolHi, ?tmaskLo, ?tmaskHi⟩
  case mode | rop | tcolLo | tcolHi | tmaskLo | tmaskHi =>
    exact .of_rows (fun _ => ⟨⟨rfl, rfl⟩, rfl, rfl⟩) (by decide) (fun _ => rfl) (fun _ _ => rfl) (fun _ _ => rfl)
      (fun _ => rfl) (fun _ _ => rfl) (fun _ => rfl)

/-! ### The status register and the data-feed port -/

section
variable {s : State}

theorem busy_eq_false_iff : busy s = false ↔ s.blt.fsm = .idle := by simp [busy]

theorem busy_iff : busy s = true ↔ s.blt.fsm ≠ .idle := by simp [busy]

/-- The byte of `BLT.STATUS`: BUSY and PROGRESS go together (43_blt_registers.md R231). -/
theorem statusByte_eq (s : State) : statusByte s = if s.blt.fsm = .idle then 0x00 else 0x09 := by
  unfold statusByte progress
  split
  · next hidle =>
    rw [busy_eq_false_iff.mpr hidle]
    rfl
  · next hbusy =>
    rw [busy_iff.mpr hbusy]
    rfl

/-- A gated write whose own condition fails changes nothing, whether the gate is open or shut. -/
theorem next_gated_of_condition_false {r : Reg} {c : Bool} (t : State) (h : c = false) :
    (.next (gated r s (if c then t else s)) : Result) = .next s := by
  rw [h]
  exact congrArg _ (ite_self s)

end

/-- Settles O24: the status byte is answered. -/
theorem statusRead : Obligations.StatusRead := by
  refine ⟨decodesAt_of_represents fun _ => ⟨⟨rfl, rfl⟩, rfl, rfl⟩, fun p s => ?_⟩
  rw [← statusByte_eq]
  rfl

/-- Settles O25: the write is behind the gate, and behind it asks for START and an idle engine. -/
theorem statusWriteDiscarded : Obligations.StatusWriteDiscarded := by
  rintro d s (hshut | hclear | hbusy)
  · exact exec_of_gateShut rfl hshut
  · exact next_gated_of_condition_false _ (by rw [statusStart, hclear, Bool.false_and])
  · exact next_gated_of_condition_false _ (by rw [busy_iff.mpr hbusy, Bool.not_true, Bool.and_false])

/-- Settles O35: the write is behind the gate, and behind it asks for a waiting system transfer; the read is by definition. -/
theorem dataPortWithoutTransfer : Obligations.DataPortWithoutTransfer := by
  refine ⟨decodesAt_of_represents fun _ => ⟨⟨rfl, rfl⟩, rfl, rfl⟩, by decide, fun d p s => ⟨?write, rfl⟩⟩
  case write =>
    rintro (hnotWaiting | hshut)
    · exact next_gated_of_condition_false _ (beq_eq_false_iff_ne.mpr hnotWaiting)
    · exact exec_of_gateShut rfl hshut

end Sys2Proof.Machine
end

section
/-! The transactions of a transfer (43_blt_registers.md R230, R232; 44_blt_engine.md R250..R252): what a START that takes
effect makes of the engine, what a feed does, and the transitions between transactions. -/

namespace Sys2Proof.Machine

/-! ### The operands of a transfer -/

/-- The engine's record has the same operand registers (10_state.md R30..R36); its progress and its staging may differ. -/
structure SameOperands (b b' : Blt) : Prop where
  width : b'.width = b.width
  height : b'.height = b.height
  destPitch : b'.destPitch = b.destPitch
  sourcePitch : b'.sourcePitch = b.sourcePitch
  dest : b'.dest = b.dest
  source : b'.source = b.source
  mode : b'.mode = b.mode
  rop : b'.rop = b.rop
  transColour : b'.transColour = b.transColour
  transColourMask : b'.transColourMask = b.transColourMask

theorem SameOperands.refl (b : Blt) : SameOperands b b :=
  ⟨rfl, rfl, rfl, rfl, rfl, rfl, rfl, rfl, rfl, rfl⟩

theorem OnlyProgress.sameOperands {b b' : Blt} (h : OnlyProgress b b') : SameOperands b b' := by
  unfold OnlyProgress at h
  rw [h]
  exact { SameOperands.refl b with }

theorem SameOperands.trans {b c e : Blt} (h₁ : SameOperands b c) (h₂ : SameOperands c e) : SameOperands b e where
  width := h₂.width.trans h₁.width
  height := h₂.height.trans h₁.height
  destPitch := h₂.destPitch.trans h₁.destPitch
  sourcePitch := h₂.sourcePitch.trans h₁.sourcePitch
  dest := h₂.dest.trans h₁.dest
  source := h₂.source.trans h₁.source
  mode := h₂.mode.trans h₁.mode
  rop := h₂.rop.trans h₁.rop
  transColour := h₂.transColour.trans h₁.transColour
  transColourMask := h₂.transColourMask.trans h₁.transColourMask

/-- The start of a transfer sets the progress and the staging alone (44_blt_engine.md R251). -/
theorem startedBlt_sameOperands (b : Blt) (fsm : BltFsm) : SameOperands b (startedBlt b fsm) :=
  { SameOperands.refl b with }

theorem staging_sameOperands (b : Blt) (buffer : BitVec 32) (count : Byte) :
    SameOperands b { b with systemBuffer := buffer, systemCount := count } :=
  { SameOperands.refl b with }

theorem sysFeed_sameOperands (b : Byte) (s : State) : SameOperands s.blt (sysFeed b s).blt :=
  (staging_sameOperands s.blt _ _).trans (sysFeed_onlyProgress b s).sameOperands

/-! ### START -/

section
variable {d : Byte} {s : State}

theorem exec_start (h : Starts s d) : exec (.wBltStatus d) s = .next (bltStart s) := by
  obtain ⟨hopen, hstart, hidle⟩ := h
  refine (next_gated_open _ hopen).trans ?_
  rw [statusStart, hstart, busy_eq_false_iff.mpr hidle]
  rfl

theorem bltStart_degenerate (h : s.blt.width = 0 ∨ s.blt.height = 0) :
    bltStart s = { s with blt := startedBlt s.blt .idle } :=
  if_pos h

theorem bltStart_system (hw : s.blt.width ≠ 0) (hh : s.blt.height ≠ 0) (hsys : s.blt.mode.getLsbD 2 = true) :
    bltStart s = { s with blt := startedBlt s.blt .xferSys } :=
  (if_neg (not_or.mpr ⟨hw, hh⟩)).trans (if_pos hsys)

theorem bltStart_vram (hw : s.blt.width ≠ 0) (hh : s.blt.height ≠ 0) (hvram : s.blt.mode.getLsbD 2 = false) :
    bltStart s = runVram (area s.blt) { s with blt := startedBlt s.blt .xferVram } :=
  (if_neg (not_or.mpr ⟨hw, hh⟩)).trans (if_neg (Bool.eq_false_iff.mp hvram))

/-- A byte that no system transfer waits for is discarded. -/
theorem exec_feed_discarded (b : Byte) (h : s.blt.fsm ≠ .xferSys) : exec (.wBltData b) s = .next s :=
  next_gated_of_condition_false _ (beq_eq_false_iff_ne.mpr h)

theorem exec_feed (b : Byte) (hopen : GateOpen s .bltData) (hwaits : s.blt.fsm = .xferSys) :
    exec (.wBltData b) s = .next (sysFeed b s) := by
  refine (next_gated_open _ hopen).trans ?_
  rw [if_pos (beq_iff_eq.mpr hwaits)]

end

/-- Settles O26: the degenerate case of `BltStart`, which leaves no transfer waiting. -/
theorem degenerateStart : Obligations.DegenerateStart := by
  intro d s hstart hzero
  refine ⟨?_, fun b => exec_feed_discarded b nofun⟩
  rw [exec_start hstart, bltStart_degenerate hzero]

/-- Settles O27: the system case of `BltStart`. -/
theorem systemStart : Obligations.SystemStart := by
  intro d s hstart hw hh hsys
  rw [exec_start hstart, bltStart_system hw hh hsys]

/-! ### The advance -/

theorem toNat_succ_of_lt_max {x : Word16} (h : x.toNat < 0xFFFF) : (x + 1).toNat = x.toNat + 1 := by
  bv_omega

theorem dirOf_eq (mode : Byte) : dirOf mode = if mode.getLsbD 0 then -1 else 1 := rfl

/-- Settles O28: the three cases of `Advance`, whose counts do not wrap below their largest value. -/
theorem advancePosition : Obligations.AdvancePosition := by
  intro b hpixel hscan
  have hx := toNat_succ_of_lt_max hpixel
  have hy := toNat_succ_of_lt_max hscan
  rcases advanceBlt_cases b with ⟨hrow, h⟩ | ⟨hrow, hrows, h⟩ | ⟨hrow, hrows, h⟩ <;> rw [hx] at hrow
  case inl => exact ⟨fun _ => h, fun _ => by omega, fun _ => by omega⟩
  case inr.inl =>
    rw [hy] at hrows h
    refine ⟨fun _ => by omega, fun _ _ => ?_, fun _ => by omega⟩
    rw [h, dirOf_eq, offsetAddr]
    push_cast
    rfl
  case inr.inr =>
    rw [hy] at hrows
    exact ⟨fun _ => by omega, fun _ => by omega, fun _ _ => h⟩

/-! ### Transitions -/

/-- The advance goes on in the same state of the engine, or ends the last row. -/
theorem advanceBlt_fsm_or_done (b : Blt) :
    (advanceBlt b).fsm = b.fsm ∨
      ((advanceBlt b).fsm = .idle ∧ (advanceBlt b).height.toNat ≤ (advanceBlt b).scanCount.toNat) := by
  rcases advanceBlt_cases b with ⟨-, h⟩ | ⟨-, -, h⟩ | ⟨-, hrows, h⟩ <;> rw [h]
  · exact .inl rfl
  · exact .inl rfl
  · exact .inr ⟨rfl, hrows⟩

/-- A system transfer waits for its next byte, or is over with its last row done. -/
def WaitsOrDone (b : Blt) : Prop := b.fsm = .xferSys ∨ (b.fsm = .idle ∧ b.height.toNat ≤ b.scanCount.toNat)

theorem advance_commit_waitsOrDone (f : Byte → Byte → Byte) (sb : Byte) {s : State} (h : s.blt.fsm = .xferSys) :
    WaitsOrDone (advance (commit f sb s)).blt := by
  rw [advance_blt, commit_blt]
  exact (advanceBlt_fsm_or_done s.blt).imp_left (·.trans h)

section
variable (b : Byte) (y0 : Word16) (fuel n : Nat) {s : State}

/-- The loop of `SysFeed` is over with the byte's bits, the transfer or the row. -/
theorem expandFeed_done (h : ¬ (n < 8 * bppOf s.blt.mode ∧ s.blt.fsm = .xferSys ∧ s.blt.scanCount = y0)) :
    expandFeed b y0 fuel n s = s := by
  cases fuel with
  | zero => rfl
  | succ fuel => exact if_neg h

theorem expandFeed_succ (hn : n < 8 * bppOf s.blt.mode) (hf : s.blt.fsm = .xferSys) (hy : s.blt.scanCount = y0) :
    expandFeed b y0 (fuel + 1) n s = expandFeed b y0 fuel (n + 1)
      (advance (commit (liveRaster s)
        (colourByte s.rf (pixelBit b (n / bppOf s.blt.mode)) (n % bppOf s.blt.mode)) s)) :=
  if_pos ⟨hn, hf, hy⟩

theorem expandFeed_waitsOrDone (h : s.blt.fsm = .xferSys) : WaitsOrDone (expandFeed b y0 fuel n s).blt := by
  induction fuel generalizing n s with
  | zero => exact .inl h
  | succ fuel ih =>
    by_cases hloop : n < 8 * bppOf s.blt.mode ∧ s.blt.fsm = .xferSys ∧ s.blt.scanCount = y0
    · obtain ⟨hn, hf, hy⟩ := hloop
      rw [expandFeed_succ b y0 fuel n hn hf hy]
      rcases advance_commit_waitsOrDone (liveRaster s) _ hf with hwaits | hdone
      · exact ih _ hwaits
      · obtain ⟨hidle, hrows⟩ := hdone
        rw [expandFeed_done b y0 fuel _ fun ⟨_, hf, _⟩ => nomatch hidle.symm.trans hf]
        exact .inr ⟨hidle, hrows⟩
    · rw [expandFeed_done b y0 _ n hloop]
      exact .inl h

end

/-- The staging is no part of what the engine waits for. -/
theorem sysFeed_waitsOrDone (b : Byte) {s : State} (h : s.blt.fsm = .xferSys) : WaitsOrDone (sysFeed b s).blt := by
  obtain ⟨fed, he, hfed⟩ := sysFeed_cases b s
  rw [he]
  change WaitsOrDone fed.blt
  rcases hfed with ⟨-, rfl⟩ | ⟨-, rfl⟩
  · exact expandFeed_waitsOrDone b _ _ _ (s := stageByte b s) h
  · exact advance_commit_waitsOrDone _ b (s := stageByte b s) h

/-- From idle only a START with a system source and an extent leads to the waiting state. -/
theorem Effect.fsm_of_idle {i : Instr} {s t : State} (h : Effect i s t) (hidle : s.blt.fsm = .idle) :
    t.blt.fsm = .idle ∨
      (t.blt.fsm = .xferSys ∧ s.blt.mode.getLsbD 2 = true ∧ s.blt.width ≠ 0 ∧ s.blt.height ≠ 0 ∧
        ∃ d, i = .wBltStatus d ∧ Starts s d) := by
  induction h with
  | unchanged => exact .inl hidle
  | answers _ _ ih | resetsPhase _ ih | changesDac _ _ _ ih => exact ih
  | setsLock | movesCursor | writesVram => exact .inl hidle
  | stores r d =>
    have hkeep := putStored_onlyOperands r (d &&& writeMask r s.cfg) s
    unfold OnlyOperands at hkeep
    rw [hkeep]
    exact .inl hidle
  | writesEntry =>
    rw [putEntry_blt]
    exact .inl hidle
  | advancesPhase =>
    rw [maskAdvance_blt]
    exact .inl hidle
  | starts d hi hstart =>
    by_cases hzero : s.blt.width = 0 ∨ s.blt.height = 0
    · rw [bltStart_degenerate hzero]
      exact .inl rfl
    obtain ⟨hw, hh⟩ := not_or.mp hzero
    cases hsys : s.blt.mode.getLsbD 2
    · refine .inl ((bltStart_fsm s).resolve_right ?_)
      rw [bltStart_vram hw hh hsys]
      exact runVram_fsm_ne_xferSys _ (s := { s with blt := startedBlt s.blt .xferVram }) nofun
    · rw [bltStart_system hw hh hsys]
      exact .inr ⟨rfl, rfl, hw, hh, d, hi, hstart⟩
  | feeds _ _ hf => cases hidle.symm.trans hf
  | passes _ hf => cases hidle.symm.trans hf

/-- Settles O47: from idle by the effects of an instruction; in the waiting state everything but a feed keeps the transfer, and
a feed goes on or ends the last row. -/
theorem engineTransitions : Obligations.EngineTransitions := by
  intro i s t hexec
  refine ⟨(Effect.of_exec hexec).fsm_of_idle, fun hf => ?_⟩
  by_cases hfeed : ∃ d, i = .wBltData d
  · obtain ⟨d, rfl⟩ := hfeed
    by_cases hopen : GateOpen s .bltData
    · cases hexec.symm.trans (exec_feed d hopen hf)
      refine (sysFeed_waitsOrDone d hf).imp_right fun ⟨hidle, hrows⟩ => ⟨hidle, ?_, d, rfl⟩
      rwa [← (sysFeed_sameOperands d s).height]
    · cases hexec.symm.trans (exec_of_gateShut rfl (Decidable.not_imp_iff_and_not.mp hopen))
      exact .inl hf
  · obtain ⟨u, hu, hkept, -⟩ := otherTransactionsKeepTheTransfer i s hf (not_exists.mp hfeed)
    cases hexec.symm.trans hu
    exact .inl hkept

end Sys2Proof.Machine
end

section
/-! One byte operation (44_blt_engine.md R262): what it does to VRAM in the terms of the statements, for a fed byte and for the
raster-operation rows (45_blt_rops.md R290..R307). -/

namespace Sys2Proof.Machine

/-! ### The byte operation -/

section
variable (f : Byte → Byte → Byte) {sb : Byte} {s : State}

theorem commit_of_skipped (h : SkippedByKey s.blt sb) : commit f sb s = s :=
  if_pos ((transparent_iff _ _).mpr h)

/-- A byte that the key does not skip is combined with the current destination byte and stored there. -/
theorem memRead_commit_of_not_skipped (h : ¬ SkippedByKey s.blt sb) (a : Nat) :
    memRead (commit f sb s) a =
      if a % s.cfg.vramSize = vramIndex s s.blt.destCurrent then f sb (memRead s s.blt.destCurrent.toNat)
      else memRead s a := by
  simp only [memRead_commit, (transparent_eq_false_iff _ _).mpr h, true_and]

end

/-- The byte operation on VRAM reads nothing of the engine but `dest_current` and the key. -/
theorem commit_vram (f : Byte → Byte → Byte) (sb : Byte) (s : State) :
    (commit f sb s).vram = if transparent s.blt sb then s.vram else
      s.vram.write (vramIndex s s.blt.destCurrent) (f sb (s.vram.read (vramIndex s s.blt.destCurrent))) := by
  unfold commit
  dsimp only
  split <;> rfl

theorem byteOperation_vram (f : Byte → Byte → Byte) (s : State) :
    (byteOperation f s).vram = (commit f (sourceOperand s) s).vram := by
  rw [byteOperation, advance_vram, commit_vram, commit_vram]
  rfl

/-! ### The plain feed -/

/-- The staging is no part of the advance. -/
theorem advanceBlt_staging (b : Blt) (buffer : BitVec 32) (count : Byte) :
    advanceBlt { b with systemBuffer := buffer, systemCount := count } =
      { advanceBlt b with systemBuffer := buffer, systemCount := count } := by
  unfold advanceBlt
  dsimp only
  split
  · split <;> rfl
  · rfl

section
variable (b : Byte) {s : State}

theorem sysFeed_plain (h : s.blt.mode.getLsbD 7 = false) : ∃ fed : State,
    sysFeed b s = { fed with blt := { fed.blt with systemCount := 0 } } ∧
      fed = advance (commit (liveRaster s) b (stageByte b s)) := by
  obtain ⟨fed, he, hfed⟩ := sysFeed_cases b s
  refine ⟨fed, he, ?_⟩
  rcases hfed with ⟨hexpand, -⟩ | ⟨-, hfed⟩
  · cases h.symm.trans hexpand
  · exact hfed

theorem sysFeed_plain_blt (h : s.blt.mode.getLsbD 7 = false) :
    (sysFeed b s).blt = { advanceBlt s.blt with systemBuffer := b.setWidth 32, systemCount := 0 } := by
  obtain ⟨fed, he, rfl⟩ := sysFeed_plain b h
  rw [he, advance_blt, commit_blt, stageByte, advanceBlt_staging]

theorem sysFeed_plain_vram (h : s.blt.mode.getLsbD 7 = false) :
    (sysFeed b s).vram = (commit (liveRaster s) b s).vram := by
  obtain ⟨fed, he, rfl⟩ := sysFeed_plain b h
  rw [he, advance_vram, commit_vram, commit_vram]
  rfl

theorem sysFeed_cfg : (sysFeed b s).cfg = s.cfg := by
  rw [sysFeed_frame]

end

/-- Settles O36: a plain feed is the byte operation on the fed byte and the advance. -/
theorem plainFeedIsOneByteOperation : Obligations.PlainFeedIsOneByteOperation := by
  refine ⟨fun d s hwaits hopen hplain => ?feed, ?commit⟩
  case feed =>
    have hvram := sysFeed_plain_vram d hplain
    refine ⟨sysFeed d s, exec_feed d hopen hwaits, sysFeed_frame d s, sysFeed_plain_blt d hplain,
      fun hskip => ?skipped, fun hkeep a => ?stored⟩
    case skipped => rw [hvram, commit_of_skipped _ hskip]
    case stored =>
      rw [memRead_congr hvram ((sysFeed_cfg d).trans (commit_cfg ..).symm)]
      exact memRead_commit_of_not_skipped _ hkeep a
  case commit =>
    rintro sb s _ rfl
    exact ⟨commit_frame .., fun hskip => by rw [commit_of_skipped _ hskip],
      fun hkeep => memRead_commit_of_not_skipped _ hkeep⟩

/-! ### Raster-operation rows -/

theorem rasterIn_apply (rops : List Byte) (code : Byte) (f : Byte → Byte → Byte) (S D : Byte) :
    rasterIn rops code f S D = if code ∈ rops then f S D else S := by
  unfold rasterIn
  by_cases h : code ∈ rops <;> simp [h, rasterDefault]

/-- An instruction whose meaning is one byte operation of a running transfer follows the rule of its row. -/
theorem RasterRowRule.of_engineByte {code : Byte} {i : Instr} {f : Byte → Byte → Byte} (hdecode : decode (.rop code) = i)
    (hexec : ∀ s, exec i s = .next (engineByte code f s)) : RasterRowRule code i f := by
  refine ⟨hdecode, fun s from_ sb hf hreads => ?_⟩
  obtain ⟨rfl, rfl⟩ := hreads.eq
  obtain ⟨-, hpass⟩ := (engineByte_cases code f s).resolve_right fun ⟨hne, _⟩ => hne hf
  have hvram := byteOperation_vram (rasterIn s.cfg.rops code f) s
  rw [hexec, hpass]
  refine ⟨_, rfl, byteOperation_frame .., byteOperation_blt .., fun hskip => ?skipped, fun hkeep a => ?stored⟩
  case skipped => rw [hvram, commit_of_skipped _ hskip]
  case stored =>
    rw [memRead_congr hvram ((byteOperation_cfg ..).trans (commit_cfg ..).symm), ← rasterIn_apply]
    exact memRead_commit_of_not_skipped _ hkeep a

/-- Settles O42: each row is one byte operation under its function. -/
theorem rasterRowsZeroToNotSrcAndDst : Obligations.RasterRowsZeroToNotSrcAndDst := by
  refine ⟨?zero, ?and, ?nop, ?srcAndNotDst, ?notDst, ?copy, ?one, ?notSrcAndDst⟩
  case zero | and | nop | srcAndNotDst | notDst | copy | one | notSrcAndDst =>
    exact .of_engineByte rfl fun _ => rfl

/-- Settles O43: each row is one byte operation under its function, and a code without a row decodes to the default. -/
theorem rasterRowsXorToDefault : Obligations.RasterRowsXorToDefault := by
  refine ⟨?xor, ?or, ?nor, ?xnor, ?srcOrNotDst, ?notSrc, ?notSrcOrDst, ?nand, fun code hcode => ?default⟩
  case xor | or | nor | xnor | srcOrNotDst | notSrc | notSrcOrDst | nand => exact .of_engineByte rfl fun _ => rfl
  case default =>
    exact .of_engineByte (decodeRop_of_not_contains (by simpa using hcode)) fun _ => rfl

/-! ### The selected row -/

/-- The row a code decodes to is one byte operation under the code's byte function. -/
theorem exec_decodeRop (code : Byte) (s : State) :
    exec (decode (.rop code)) s = .next (engineByte code (rasterOf code) s) := by
  by_cases hcode : code ∈ Config.allRops
  · unfold Config.allRops at hcode
    fin_cases hcode <;> rfl
  · have hlist : Config.allRops.contains code = false := by simpa using hcode
    have hnumber := toNat_ne_of_not_contains hlist
    have hdefault : rasterOf code = rasterDefault := by simp [rasterOf, Config.allRops, hnumber]
    rw [decode, decodeRop_of_not_contains hlist, hdefault]
    rfl

/-- Settles O44: in a running transfer the row's byte operation is that of the loop, with the live raster operation. -/
theorem selectedRowIsOnePass : Obligations.SelectedRowIsOnePass := by
  intro s hf
  obtain ⟨-, hpass⟩ := (engineByte_cases s.blt.rop (rasterOf s.blt.rop) s).resolve_right fun ⟨hne, _⟩ => hne hf
  rw [exec_decodeRop, hpass]
  rfl

end Sys2Proof.Machine
end

section
/-! The passes of a VRAM transfer (44_blt_engine.md R253, R254, R263, R264): where each byte operation stands and that `w * h`
of them complete the transfer. -/

namespace Sys2Proof.Machine

/-! ### Positions -/

/-- The record `b` stands at byte operation number `k` of the transfer with the operands of `b₀`: row `k / w`, position
`k mod w`, `dest_current` at their destination. -/
structure AtPosition (b₀ : Blt) (k : Nat) (b : Blt) : Prop where
  operands : SameOperands b₀ b
  row : b.scanCount.toNat = k / b₀.width.toNat
  column : b.pixelCount.toNat = k % b₀.width.toNat
  dest : b.destCurrent = destAt b₀ k

theorem destAddr_congr {b b' : Blt} (h : SameOperands b b') (y x : Nat) : destAddr b' y x = destAddr b y x := by
  unfold destAddr
  rw [h.dest, h.mode, h.destPitch]

theorem destAt_zero (b : Blt) : destAt b 0 = b.dest := by
  simp [destAt, destAddr]

theorem destAt_eq {b : Blt} {k y x : Nat} (hy : k / b.width.toNat = y) (hx : k % b.width.toNat = x) :
    destAt b k = destAddr b y x := by
  rw [destAt, hy, hx]

theorem startedBlt_atPosition (b : Blt) (fsm : BltFsm) : AtPosition b 0 (startedBlt b fsm) where
  operands := startedBlt_sameOperands b fsm
  row := (Nat.zero_div _).symm
  column := (Nat.zero_mod _).symm
  dest := (destAt_zero b).symm

/-- The number after that of a position inside a row stands next to it. -/
theorem succ_div_mod_of_lt {k w : Nat} (h : k % w + 1 < w) : (k + 1) / w = k / w ∧ (k + 1) % w = k % w + 1 := by
  have hk := Nat.div_add_mod k w
  exact (Nat.div_mod_unique (by omega)).mpr ⟨by omega, h⟩

/-- The number after that of a row's last position stands at the start of the next row. -/
theorem succ_div_mod_of_le {k w : Nat} (hw : 0 < w) (h : w ≤ k % w + 1) : (k + 1) / w = k / w + 1 ∧ (k + 1) % w = 0 := by
  have hk := Nat.div_add_mod k w
  have hlt := Nat.mod_lt k hw
  refine (Nat.div_mod_unique hw).mpr ⟨?_, hw⟩
  rw [Nat.mul_succ]
  omega

namespace AtPosition

variable {b₀ b : Blt} {k : Nat}

theorem withSourceCurrent (h : AtPosition b₀ k b) (a : Addr) : AtPosition b₀ k { b with sourceCurrent := a } where
  operands := { h.operands with }
  row := h.row
  column := h.column
  dest := h.dest

theorem width_pos (hk : k < area b₀) : 0 < b₀.width.toNat := Nat.pos_of_mul_pos_right (Nat.zero_lt_of_lt hk)

/-- A position before the last is in the extent, so neither count wraps. -/
theorem toNat_succ (h : AtPosition b₀ k b) (hk : k < area b₀) :
    (b.pixelCount + 1).toNat = k % b₀.width.toNat + 1 ∧ (b.scanCount + 1).toNat = k / b₀.width.toNat + 1 := by
  have hpixel : b.pixelCount.toNat < b₀.width.toNat := h.column.trans_lt (Nat.mod_lt _ (width_pos hk))
  have hscan : b.scanCount.toNat < b₀.height.toNat := h.row.trans_lt (Nat.div_lt_of_lt_mul hk)
  rw [toNat_succ_of_lt hpixel, toNat_succ_of_lt hscan, h.column, h.row]
  exact ⟨rfl, rfl⟩

/-- Before the last position the advance goes to the next one, in the same state of the engine. -/
theorem advance (h : AtPosition b₀ k b) (hk : k + 1 < area b₀) :
    (advanceBlt b).fsm = b.fsm ∧ AtPosition b₀ (k + 1) (advanceBlt b) := by
  obtain ⟨hx, hy⟩ := h.toNat_succ (Nat.lt_of_succ_lt hk)
  have hw := width_pos (Nat.lt_of_succ_lt hk)
  have hoperands := h.operands.trans (advanceBlt_onlyProgress b).sameOperands
  have hrows : (k + 1) / b₀.width.toNat < b₀.height.toNat := Nat.div_lt_of_lt_mul hk
  rcases advanceBlt_cases b with ⟨hin, ha⟩ | ⟨hend, -, ha⟩ | ⟨hend, hlast, -⟩
  case inl =>
    rw [hx, h.operands.width] at hin
    obtain ⟨hdiv, hmod⟩ := succ_div_mod_of_lt hin
    rw [ha] at hoperands ⊢
    refine ⟨rfl, hoperands, h.row.trans hdiv.symm, hx.trans hmod.symm, ?_⟩
    dsimp only
    rw [h.dest, h.operands.mode, destAt, destAddr_succ, destAt_eq hdiv hmod]
  case inr.inl =>
    rw [hx, h.operands.width] at hend
    obtain ⟨hdiv, hmod⟩ := succ_div_mod_of_le hw hend
    rw [ha] at hoperands ⊢
    refine ⟨rfl, hoperands, hy.trans hdiv.symm, hmod.symm, ?_⟩
    dsimp only
    rw [← destAddr_row_start, destAddr_congr h.operands, hy, destAt_eq hdiv hmod]
  case inr.inr =>
    rw [hx, h.operands.width] at hend
    rw [hy, h.operands.height] at hlast
    obtain ⟨hdiv, -⟩ := succ_div_mod_of_le hw hend
    omega

/-- At the last position the advance completes the transfer. -/
theorem advance_last (h : AtPosition b₀ k b) (hk : k + 1 = area b₀) :
    advanceBlt b = { b with pixelCount := 0, scanCount := b₀.height, fsm := .idle } := by
  have hlt : k < area b₀ := hk ▸ Nat.lt_succ_self k
  obtain ⟨hx, hy⟩ := h.toNat_succ hlt
  have hw := width_pos hlt
  have hdiv : (k + 1) / b₀.width.toNat = b₀.height.toNat := by rw [hk, Nat.mul_div_cancel_left _ hw]
  have hmod : (k + 1) % b₀.width.toNat = 0 := by rw [hk, Nat.mul_mod_right]
  rcases advanceBlt_cases b with ⟨hin, -⟩ | ⟨hend, hmore, -⟩ | ⟨hend, -, ha⟩
  case inl =>
    rw [hx, h.operands.width] at hin
    obtain ⟨-, hmod'⟩ := succ_div_mod_of_lt hin
    omega
  case inr.inl =>
    rw [hx, h.operands.width] at hend
    rw [hy, h.operands.height] at hmore
    obtain ⟨hdiv', -⟩ := succ_div_mod_of_le hw hend
    omega
  case inr.inr =>
    rw [hx, h.operands.width] at hend
    obtain ⟨hdiv', -⟩ := succ_div_mod_of_le hw hend
    have hscan : b.scanCount + 1 = b₀.height := by
      apply BitVec.eq_of_toNat_eq
      omega
    rw [ha, hscan]

end AtPosition

/-! ### Passes -/

/-- The state after `k` passes of the loop of `RunVram`, from the state in which the START in `s` enters it. -/
def passes (k : Nat) (s : State) : State := livePass^[k] { s with blt := startedBlt s.blt .xferVram }

theorem passes_succ (k : Nat) (s : State) : passes (k + 1) s = livePass (passes k s) :=
  Function.iterate_succ_apply' ..

theorem livePass_frame (s : State) : OnlyEngineAndVram s (livePass s) := byteOperation_frame _ s

theorem passes_frame (k : Nat) (s : State) : OnlyEngineAndVram s (passes k s) := by
  induction k with
  | zero => rfl
  | succ k ih =>
    rw [passes_succ]
    exact engineFrame_trans ih (livePass_frame _)

@[simp] theorem passes_cfg (k : Nat) (s : State) : (passes k s).cfg = s.cfg := by
  rw [passes_frame]

/-- The passes leave the operands, and the staging as START has cleared it. -/
theorem passes_onlyProgress (k : Nat) (s : State) : OnlyProgress (startedBlt s.blt .xferVram) (passes k s).blt := by
  induction k with
  | zero => exact .refl _
  | succ k ih =>
    rw [passes_succ]
    exact ih.trans (byteOperation_onlyProgress _ _)

theorem passes_sameOperands (k : Nat) (s : State) : SameOperands s.blt (passes k s).blt :=
  (startedBlt_sameOperands s.blt .xferVram).trans (passes_onlyProgress k s).sameOperands

theorem livePass_blt (s : State) : (livePass s).blt = advanceBlt { s.blt with sourceCurrent := sourceAddress s } :=
  byteOperation_blt _ s

/-- Before pass `k` the transfer runs and stands at position `k`. -/
theorem passes_atPosition {k : Nat} {s : State} (hk : k < area s.blt) :
    (passes k s).blt.fsm = .xferVram ∧ AtPosition s.blt k (passes k s).blt := by
  induction k with
  | zero => exact ⟨rfl, startedBlt_atPosition s.blt .xferVram⟩
  | succ k ih =>
    obtain ⟨hf, hat⟩ := ih (Nat.lt_of_succ_lt hk)
    obtain ⟨hf', hat'⟩ := (hat.withSourceCurrent (sourceAddress (passes k s))).advance hk
    rw [passes_succ, livePass_blt]
    exact ⟨hf'.trans hf, hat'⟩

/-- The record when the loop is over (44_blt_engine.md R264). -/
theorem passes_area_blt {s : State} (hpos : 0 < area s.blt) :
    (passes (area s.blt) s).blt = { startedBlt s.blt .idle with
      scanCount := s.blt.height
      destCurrent := destAt s.blt (area s.blt - 1)
      sourceCurrent := (passes (area s.blt) s).blt.sourceCurrent } := by
  have hlast : area s.blt - 1 + 1 = area s.blt := Nat.sub_add_cancel hpos
  obtain ⟨-, hat⟩ := passes_atPosition (k := area s.blt - 1) (s := s) (Nat.sub_one_lt_of_lt hpos)
  have hkept := passes_onlyProgress (area s.blt - 1) s
  unfold OnlyProgress at hkept
  rw [← hlast, passes_succ, livePass_blt, (hat.withSourceCurrent _).advance_last hlast, hkept, hat.dest]
  rfl

/-- The loop of `RunVram` is as many passes as its bound, if the transfer runs before each. -/
theorem runVram_eq_iterate {n : Nat} {s : State} (h : ∀ k, k < n → (livePass^[k] s).blt.fsm = .xferVram) :
    runVram n s = livePass^[n] s := by
  induction n generalizing s with
  | zero => rfl
  | succ n ih =>
    have hf : s.blt.fsm = .xferVram := h 0 (Nat.succ_pos n)
    rw [runVram_succ n hf, Function.iterate_succ_apply]
    exact ih fun k hk => h (k + 1) (Nat.succ_lt_succ hk)

theorem bltStart_eq_passes {s : State} (hw : s.blt.width ≠ 0) (hh : s.blt.height ≠ 0)
    (hvram : s.blt.mode.getLsbD 2 = false) : bltStart s = passes (area s.blt) s := by
  rw [bltStart_vram hw hh hvram]
  exact runVram_eq_iterate fun k hk => (passes_atPosition hk).1

theorem area_pos {b : Blt} (hw : b.width ≠ 0) (hh : b.height ≠ 0) : 0 < area b :=
  Nat.mul_pos (toNat_pos_of_ne_zero hw) (toNat_pos_of_ne_zero hh)

/-- Settles O29: the loop is `w * h` passes, each at its position, and the last one completes. -/
theorem vramTransferRunsEveryPosition : Obligations.VramTransferRunsEveryPosition := by
  rintro d s hstart hw hh hvram _ _ rfl rfl
  refine ⟨?runs, fun k hk => ?position, passes_frame _ s, passes_area_blt (area_pos hw hh)⟩
  case runs => rw [exec_start hstart, bltStart_eq_passes hw hh hvram, passes]
  case position =>
    obtain ⟨hf, hat⟩ := passes_atPosition hk
    exact ⟨hf, hat.row, hat.column, hat.dest⟩

end Sys2Proof.Machine
end

section
/-! What a VRAM transfer does to VRAM (44_blt_engine.md R253..R255, R262, R269): its frame, transparency with an all-zero mask,
and COPY as a move of the source bytes. -/

namespace Sys2Proof.Machine

/-! ### The outcome of the START -/

/-- A VRAM-source START ends idle, with the VRAM of the `w * h` passes; of a degenerate extent there are none. -/
theorem exec_start_vram {d : Byte} {s : State} (hstart : Starts s d) (hvram : s.blt.mode.getLsbD 2 = false) :
    ∃ t, exec (.wBltStatus d) s = .next t ∧ OnlyEngineAndVram s t ∧ t.vram = (passes (area s.blt) s).vram ∧
      t.blt.fsm = .idle := by
  refine ⟨_, exec_start hstart, bltStart_frame s, ?_⟩
  by_cases hzero : s.blt.width = 0 ∨ s.blt.height = 0
  · have harea : area s.blt = 0 := by rcases hzero with h | h <;> simp [area, h]
    rw [bltStart_degenerate hzero, harea]
    exact ⟨rfl, rfl⟩
  · obtain ⟨hw, hh⟩ := not_or.mp hzero
    rw [bltStart_eq_passes hw hh hvram, passes_area_blt (area_pos hw hh)]
    exact ⟨rfl, rfl⟩

theorem OnlyEngineAndVram.cfg_eq {s t : State} (h : OnlyEngineAndVram s t) : t.cfg = s.cfg := by
  rw [h]

/-! ### The VRAM writes of the passes -/

theorem transparent_congr {b b' : Blt} (h : SameOperands b b') (sb : Byte) : transparent b' sb = transparent b sb := by
  simp only [transparent, h.mode, h.transColour, h.transColourMask]

theorem skippedByKey_congr {b b' : Blt} (h : SameOperands b b') (sb : Byte) : SkippedByKey b' sb ↔ SkippedByKey b sb := by
  rw [← transparent_iff, transparent_congr h, transparent_iff]

/-- The source operand of pass `k`. -/
def operandAt (s : State) (k : Nat) : Byte := sourceOperand (passes k s)

section
variable {s : State} {k : Nat}

theorem liveRaster_passes : liveRaster (passes k s) = rop s.cfg.rops s.blt.rop := by
  rw [liveRaster, passes_cfg, (passes_sameOperands k s).rop]

theorem passes_succ_vram :
    (passes (k + 1) s).vram = (commit (rop s.cfg.rops s.blt.rop) (operandAt s k) (passes k s)).vram := by
  rw [passes_succ, livePass, byteOperation_vram, liveRaster_passes, operandAt]

theorem memRead_passes_succ (a : Nat) : memRead (passes (k + 1) s) a =
    memRead (commit (rop s.cfg.rops s.blt.rop) (operandAt s k) (passes k s)) a :=
  memRead_congr passes_succ_vram (by rw [commit_cfg, passes_cfg, passes_cfg]) a

/-- Pass `k` writes at most the destination of position `k`. -/
theorem memRead_passes_succ_of_ne (hk : k < area s.blt) {a : Nat}
    (ha : a % s.cfg.vramSize ≠ vramIndex s (destAt s.blt k)) : memRead (passes (k + 1) s) a = memRead (passes k s) a := by
  obtain ⟨-, hat⟩ := passes_atPosition hk
  rw [memRead_passes_succ, memRead_commit, hat.dest, passes_cfg, if_neg fun h => ha h.2]

/-- Pass `k` stores, at the destination of position `k`, the raster operation of the operand and the byte there. -/
theorem memRead_passes_succ_self (hk : k < area s.blt) (hkeep : ¬ SkippedByKey s.blt (operandAt s k)) :
    memRead (passes (k + 1) s) (destAt s.blt k).toNat =
      rop s.cfg.rops s.blt.rop (operandAt s k) (memRead (passes k s) (destAt s.blt k).toNat) := by
  obtain ⟨-, hat⟩ := passes_atPosition hk
  rw [← skippedByKey_congr (passes_sameOperands k s)] at hkeep
  rw [memRead_passes_succ, memRead_commit_of_not_skipped _ hkeep, hat.dest, vramIndex, passes_cfg,
    if_pos rfl]

/-- From pass `j` to pass `k` every VRAM byte stays that is the destination of none of the positions between. -/
theorem memRead_passes_of_ne {j a : Nat} (hjk : j ≤ k) (hk : k ≤ area s.blt)
    (ha : ∀ i, j ≤ i → i < k → a % s.cfg.vramSize ≠ vramIndex s (destAt s.blt i)) :
    memRead (passes k s) a = memRead (passes j s) a := by
  induction k, hjk using Nat.le_induction with
  | base => rfl
  | succ k hjk ih =>
    rw [memRead_passes_succ_of_ne hk (ha k hjk (Nat.lt_succ_self k))]
    exact ih (Nat.le_of_succ_le hk) fun i hi hik => ha i hi (Nat.lt_succ_of_lt hik)

/-- Before any pass VRAM is that of the START. -/
theorem memRead_passes_zero (a : Nat) : memRead (passes 0 s) a = memRead s a := rfl

end

/-! ### Frame and transparency -/

/-- Settles O30: none of the passes writes the byte. -/
theorem vramTransferFrame : Obligations.VramTransferFrame := by
  intro d s hstart hvram
  obtain ⟨t, hexec, hframe, hmem, -⟩ := exec_start_vram hstart hvram
  refine ⟨t, hexec, hframe, fun a ha => ?_⟩
  rw [memRead_congr hmem (hframe.cfg_eq.trans (passes_cfg ..).symm),
    memRead_passes_of_ne (Nat.zero_le _) le_rfl fun i _ hi => ha i hi, memRead_passes_zero]

/-- Settles O34: under an all-zero mask the key skips every operand, so no pass writes. -/
theorem allZeroMaskWritesNothing : Obligations.AllZeroMaskWritesNothing := by
  intro d s hstart hvram htransp hmask
  obtain ⟨t, hexec, -, hmem, hidle⟩ := exec_start_vram hstart hvram
  have hskip (sb : Byte) : SkippedByKey s.blt sb := by
    refine ⟨htransp, ?_⟩
    rw [hmask]
    exact BitVec.and_zero.trans BitVec.and_zero.symm
  have hkept (k : Nat) : (passes k s).vram = s.vram := by
    induction k with
    | zero => rfl
    | succ k ih =>
      rw [passes_succ_vram, commit_of_skipped _ ((skippedByKey_congr (passes_sameOperands k s) _).mpr (hskip _)), ih]
  exact ⟨t, hexec, hmem.trans (hkept _), hidle⟩

/-! ### COPY -/

/-- COPY gives the source operand, on every variant (45_blt_rops.md R295, R307). -/
theorem rop_copy (rops : List Byte) (S D : Byte) : rop rops 0x0D S D = S := by
  rw [rop, rasterIn_apply]
  exact ite_self S

theorem sourceForm_plain {mode : Byte} (h7 : mode.getLsbD 7 = false) (h6 : mode.getLsbD 6 = false) :
    sourceForm mode = .plain := by
  rw [sourceForm_eq, h7, h6]

theorem srcAddr_congr {b b' : Blt} (h : SameOperands b b') (y x : Nat) : srcAddr b' y x = srcAddr b y x := by
  unfold srcAddr
  rw [h.source, h.mode, h.sourcePitch]

section
variable {s : State} {k : Nat}

/-- A plain operand is the byte at the position's source when the pass runs (44_blt_engine.md R255). -/
theorem operandAt_plain (hk : k < area s.blt) (h7 : s.blt.mode.getLsbD 7 = false) (h6 : s.blt.mode.getLsbD 6 = false) :
    operandAt s k = memRead (passes k s) (srcAt s.blt k).toNat := by
  obtain ⟨-, hat⟩ := passes_atPosition hk
  have hform : sourceForm (passes k s).blt.mode = .plain := by rw [hat.operands.mode, sourceForm_plain h7 h6]
  simp only [operandAt, sourceOperand, operandByte, sourceAddress, operandAddr, hform, srcAddr_congr hat.operands,
    hat.row, hat.column, srcAt]

/-- With an operand read from VRAM that no earlier pass has written, pass `k` reads it as it was. -/
theorem operandAt_plain_of_unwritten (hk : k < area s.blt) (h7 : s.blt.mode.getLsbD 7 = false)
    (h6 : s.blt.mode.getLsbD 6 = false)
    (hread : ∀ j, j < k → vramIndex s (destAt s.blt j) ≠ vramIndex s (srcAt s.blt k)) :
    operandAt s k = memRead s (srcAt s.blt k).toNat := by
  rw [operandAt_plain hk h7 h6, memRead_passes_of_ne (Nat.zero_le k) hk.le fun i _ hi => (hread i hi).symm,
    memRead_passes_zero]

end

/-- Settles O31: pass `k` copies a byte no pass has written yet to a destination no later pass writes. -/
theorem copyMovesTheRectangle : Obligations.CopyMovesTheRectangle := by
  intro d s hstart hplain hopaque hcopy hread hwrite
  obtain ⟨hvram, h6, h7⟩ := hplain
  obtain ⟨t, hexec, hframe, hmem, -⟩ := exec_start_vram hstart hvram
  refine ⟨t, hexec, fun k hk => ?_⟩
  have hkeep (sb : Byte) : ¬ SkippedByKey s.blt sb := fun ⟨htransp, _⟩ => nomatch hopaque.symm.trans htransp
  calc memRead t (destAt s.blt k).toNat
      = memRead (passes (area s.blt) s) (destAt s.blt k).toNat :=
        memRead_congr hmem (hframe.cfg_eq.trans (passes_cfg ..).symm) _
    _ = memRead (passes (k + 1) s) (destAt s.blt k).toNat :=
        memRead_passes_of_ne hk le_rfl fun i hi hlt => hwrite k i hi hlt
    _ = operandAt s k := by rw [memRead_passes_succ_self hk (hkeep _), hcopy, rop_copy]
    _ = memRead s (srcAt s.blt k).toNat := operandAt_plain_of_unwritten hk h7 h6 fun j hj => hread j k hj hk

end Sys2Proof.Machine
end

section
/-! Overlapping rectangles (44_blt_engine.md R267; 70_reset_and_hazards.md R350): a COPY in the right direction moves a rectangle
as if through a scratch buffer. Both directions visit the offsets of one rectangle, in rising and in falling order. -/

namespace Sys2Proof.Machine

/-! ### The offsets of a rectangle -/

/-- The offset of position number `k` from the corner the transfer starts at, in a bitmap with this pitch. -/
def positionOffset (pitch w k : Nat) : Nat := k / w * pitch + k % w

/-- The offset of the rectangle's last byte from its first. -/
def lastOffset (pitch w h : Nat) : Nat := (h - 1) * pitch + (w - 1)

section
variable {pitch w h : Nat}

theorem positionOffset_strictMono (hw : 0 < w) (hpitch : w ≤ pitch) : StrictMono (positionOffset pitch w) := by
  refine strictMono_nat_of_lt_succ fun k => ?_
  unfold positionOffset
  rcases Nat.lt_or_ge (k % w + 1) w with hin | hend
  · obtain ⟨hdiv, hmod⟩ := succ_div_mod_of_lt hin
    rw [hdiv, hmod]
    omega
  · obtain ⟨hdiv, hmod⟩ := succ_div_mod_of_le hw hend
    have hlt := Nat.mod_lt k hw
    rw [hdiv, hmod, Nat.succ_mul]
    omega

/-- The transfer visits the bytes of the rectangle. -/
theorem exists_positionOffset_iff (hw : 0 < w) (o : Nat) :
    (∃ k, k < w * h ∧ positionOffset pitch w k = o) ↔ ∃ y x, y < h ∧ x < w ∧ o = y * pitch + x := by
  constructor
  · rintro ⟨k, hk, rfl⟩
    exact ⟨k / w, k % w, Nat.div_lt_of_lt_mul hk, Nat.mod_lt k hw, rfl⟩
  · rintro ⟨y, x, hy, hx, rfl⟩
    have hrows : w * (y + 1) ≤ w * h := Nat.mul_le_mul_left w hy
    obtain ⟨hdiv, hmod⟩ := (Nat.div_mod_unique (a := x + w * y) hw).mpr ⟨rfl, hx⟩
    refine ⟨x + w * y, by rw [Nat.mul_succ] at hrows; omega, ?_⟩
    rw [positionOffset, hdiv, hmod]

/-- Seen from its last byte, a rectangle is the same rectangle. -/
theorem lastOffset_sub {y x : Nat} (hy : y < h) (hx : x < w) :
    y * pitch + x ≤ lastOffset pitch w h ∧
      lastOffset pitch w h - (y * pitch + x) = (h - 1 - y) * pitch + (w - 1 - x) := by
  have hrows : (h - 1) * pitch = (h - 1 - y) * pitch + y * pitch := by
    rw [← Nat.add_mul, Nat.sub_add_cancel (Nat.le_sub_one_of_lt hy)]
  unfold lastOffset
  omega

theorem positionOffset_le (hw : 0 < w) {k : Nat} (hk : k < w * h) : positionOffset pitch w k ≤ lastOffset pitch w h :=
  (lastOffset_sub (Nat.div_lt_of_lt_mul hk) (Nat.mod_lt k hw)).1

/-- From its last byte downwards, the transfer visits the same bytes. -/
theorem exists_lastOffset_sub_iff (hw : 0 < w) (o : Nat) :
    (∃ k, k < w * h ∧ lastOffset pitch w h - positionOffset pitch w k = o) ↔
      ∃ y x, y < h ∧ x < w ∧ o = y * pitch + x := by
  constructor
  · rintro ⟨k, hk, rfl⟩
    obtain ⟨y, x, hy, hx, hoffset⟩ := (exists_positionOffset_iff (pitch := pitch) hw _).mp ⟨k, hk, rfl⟩
    obtain ⟨-, hsub⟩ := lastOffset_sub (pitch := pitch) hy hx
    exact ⟨h - 1 - y, w - 1 - x, by omega, by omega, by rw [hoffset, hsub]⟩
  · rintro ⟨y, x, hy, hx, rfl⟩
    obtain ⟨k, hk, hoffset⟩ := (exists_positionOffset_iff (pitch := pitch) (h := h) hw _).mpr
      ⟨h - 1 - y, w - 1 - x, by omega, by omega, rfl⟩
    obtain ⟨hle, hsub⟩ := lastOffset_sub (pitch := pitch) hy hx
    exact ⟨k, hk, by omega⟩

end

/-! ### Safe copies -/

theorem destAt_eq_offsetAddr (b : Blt) (k : Nat) :
    destAt b k = offsetAddr b.dest (dirOf b.mode * (positionOffset b.destPitch.toNat b.width.toNat k : Int)) := rfl

theorem srcAt_eq_offsetAddr (b : Blt) (k : Nat) :
    srcAt b k = offsetAddr b.source (dirOf b.mode * (positionOffset b.sourcePitch.toNat b.width.toNat k : Int)) := rfl

/-- An address whose sum stays inside a VRAM of at most 16 MiB is its own index. -/
theorem vramIndex_offsetAddr {s : State} {a : Addr} {offset : Int} {n : Nat} (h : (a.toNat : Int) + offset = n)
    (hn : n < s.cfg.vramSize) (hv : s.cfg.vramSize ≤ 0x1000000) : vramIndex s (offsetAddr a offset) = n := by
  have haddr : (offsetAddr a offset).toNat = n := by
    rw [offsetAddr, h, BitVec.ofInt_natCast, BitVec.toNat_ofNat]
    exact Nat.mod_eq_of_lt (hn.trans_le hv)
  rw [vramIndex, haddr, Nat.mod_eq_of_lt hn]

theorem memRead_vramIndex {s t : State} (hc : t.cfg = s.cfg) (a : Addr) : memRead t (vramIndex s a) = memRead t a.toNat := by
  rw [vramIndex, ← hc, memRead_mod]

/-- A COPY that visits the bytes of a rectangle in an order `e` moves the rectangle from `src` to `dst`, if no byte is written
before it is read. -/
theorem exec_copy_rectangle {d : Byte} {s : State} {src dst pitch w h : Nat} {e : Nat → Nat} (hstart : Starts s d)
    (hplain : PlainVram s.blt.mode) (hopaque : s.blt.mode.getLsbD 3 = false) (hcopy : s.blt.rop = 0x0D)
    (hdest : ∀ k, k < area s.blt → vramIndex s (destAt s.blt k) = dst + e k)
    (hsrc : ∀ k, k < area s.blt → vramIndex s (srcAt s.blt k) = src + e k)
    (hread : ∀ j k, j < k → k < area s.blt → dst + e j ≠ src + e k)
    (honce : ∀ j k, j < k → k < area s.blt → e j ≠ e k)
    (hvisit : ∀ o, (∃ k, k < area s.blt ∧ e k = o) ↔ ∃ y x, y < h ∧ x < w ∧ o = y * pitch + x) :
    ∃ t, exec (.wBltStatus d) s = .next t ∧
      (∀ y x, y < h → x < w → memRead t (dst + y * pitch + x) = memRead s (src + y * pitch + x)) ∧
      ∀ a, a < s.cfg.vramSize → (∀ y x, y < h → x < w → a ≠ dst + y * pitch + x) → memRead t a = memRead s a := by
  obtain ⟨t, hexec, hmoved⟩ := copyMovesTheRectangle d s hstart hplain hopaque hcopy
    (fun j k hjk hk => by rw [hdest j (hjk.trans hk), hsrc k hk]; exact hread j k hjk hk)
    (fun j k hjk hk => by rw [hdest j (hjk.trans hk), hdest k hk]; exact fun h => honce j k hjk hk (Nat.add_left_cancel h))
  obtain ⟨t', hexec', hframe, hkept⟩ := vramTransferFrame d s hstart hplain.1
  cases hexec.symm.trans hexec'
  refine ⟨t, hexec, fun y x hy hx => ?moved, fun a ha hout => ?kept⟩
  case moved =>
    obtain ⟨k, hk, hek⟩ := (hvisit _).mpr ⟨y, x, hy, hx, rfl⟩
    rw [Nat.add_assoc, Nat.add_assoc, ← hek, ← hdest k hk, ← hsrc k hk, memRead_vramIndex hframe.cfg_eq,
      memRead_vramIndex rfl, hmoved k hk]
  case kept =>
    refine hkept a fun k hk => ?_
    obtain ⟨y, x, hy, hx, hek⟩ := (hvisit (e k)).mp ⟨k, hk, rfl⟩
    rw [Nat.mod_eq_of_lt ha, hdest k hk, hek, ← Nat.add_assoc]
    exact hout y x hy hx

/-- Settles O33: the offsets rise, so a byte is read before the transfer, at or below it, comes to write it. -/
theorem forwardCopyDownwardIsSafe : Obligations.ForwardCopyDownwardIsSafe := by
  rintro d s src dst pitch _ _ hstart hplain hdir hopaque hcopy rfl rfl hw hh hdpitch hspitch hpitch hv hle hin hsource hdest
  have hmono := positionOffset_strictMono hw hpitch
  have hbound (k : Nat) (hk : k < area s.blt) := positionOffset_le (pitch := pitch) hw hk
  have hforward : dirOf s.blt.mode = 1 := by rw [dirOf_eq, hdir]; rfl
  unfold lastOffset at hbound
  refine exec_copy_rectangle (e := positionOffset pitch s.blt.width.toNat) hstart hplain hopaque hcopy
    (fun k hk => ?dest) (fun k hk => ?src) (fun j k hjk _ => ?read) (fun j k hjk _ => (hmono hjk).ne)
    (exists_positionOffset_iff hw)
  case dest =>
    have := hbound k hk
    rw [destAt_eq_offsetAddr, hforward, hdpitch]
    exact vramIndex_offsetAddr (by omega) (by omega) hv
  case src =>
    have := hbound k hk
    rw [srcAt_eq_offsetAddr, hforward, hspitch]
    exact vramIndex_offsetAddr (by omega) (by omega) hv
  case read =>
    have := hmono hjk
    omega

/-- Settles O32: the offsets fall, so a byte is read before the transfer, above it, comes to write it. -/
theorem reverseCopyUpwardIsSafe : Obligations.ReverseCopyUpwardIsSafe := by
  rintro d s src dst pitch _ _ hstart hplain hdir hopaque hcopy rfl rfl hw hh hdpitch hspitch hpitch hv hlt hin hsource hdest
  have hmono := positionOffset_strictMono hw hpitch
  have hbound (k : Nat) (hk : k < area s.blt) := positionOffset_le (pitch := pitch) hw hk
  have hreverse : dirOf s.blt.mode = -1 := by rw [dirOf_eq, hdir]; rfl
  unfold lastOffset at hbound
  refine exec_copy_rectangle hstart hplain hopaque hcopy
    (fun k hk => ?dest) (fun k hk => ?src) (fun j k hjk hk => ?read) (fun j k hjk hk => ?once)
    (exists_lastOffset_sub_iff hw)
  all_goals unfold lastOffset
  case dest =>
    have := hbound k hk
    rw [destAt_eq_offsetAddr, hreverse, hdpitch]
    exact vramIndex_offsetAddr (by omega) (by omega) hv
  case src =>
    have := hbound k hk
    rw [srcAt_eq_offsetAddr, hreverse, hspitch]
    exact vramIndex_offsetAddr (by omega) (by omega) hv
  case read =>
    have := hmono hjk
    omega
  case once =>
    have := hmono hjk
    have := hbound k hk
    omega

end Sys2Proof.Machine
end

section
/-! System transfers (44_blt_engine.md R265, R266, R268): how many bytes a transfer awaits, and that the plain one makes the byte
operations of the VRAM transfer of the same bytes. -/

namespace Sys2Proof.Machine

/-! ### Runs of feeds -/

theorem execAll_cons_next {i : Instr} {s t : State} (is : List Instr) (h : exec i s = .next t) :
    execAll (i :: is) s = execAll is t := by
  simp only [execAll, h]

/-- The feeds after the end of a transfer are discarded. -/
theorem execAll_feeds_discarded (bytes : List Byte) {s : State} (h : s.blt.fsm ≠ .xferSys) :
    execAll (bytes.map .wBltData) s = some s := by
  induction bytes with
  | nil => rfl
  | cons b bytes ih => exact (execAll_cons_next _ (exec_feed_discarded b h)).trans ih

theorem sysFeed_gateOpen {r : Reg} {s : State} (b : Byte) (h : GateOpen s r) : GateOpen (sysFeed b s) r := by
  rw [sysFeed_frame]
  exact h

/-- A START with a system source and then the feeds. -/
theorem execAll_systemTransfer {d : Byte} {s : State} (bytes : List Byte) (hstart : Starts s d) (hw : s.blt.width ≠ 0)
    (hh : s.blt.height ≠ 0) (hsys : s.blt.mode.getLsbD 2 = true) :
    execAll (.wBltStatus d :: bytes.map .wBltData) s =
      execAll (bytes.map .wBltData) { s with blt := startedBlt s.blt .xferSys } :=
  execAll_cons_next _ (systemStart d s hstart hw hh hsys)

/-- If each feed takes a waiting transfer from stage `k` to stage `k + 1`, and the one of the last stage ends it, the transfer
awaits as many bytes as there are stages. -/
theorem execAll_feeds_fsm {At : Nat → State → Prop} {total : Nat} (hwaits : ∀ {k u}, At k u → u.blt.fsm = .xferSys)
    (hnext : ∀ {k u} (b : Byte), At k u → k + 1 < total → At (k + 1) (sysFeed b u))
    (hlast : ∀ {k u} (b : Byte), At k u → k + 1 = total → (sysFeed b u).blt.fsm = .idle)
    (bytes : List Byte) {k : Nat} {u : State} (hat : At k u) (hk : k < total) (hopen : GateOpen u .bltData) :
    ∃ t, execAll (bytes.map .wBltData) u = some t ∧
      t.blt.fsm = if k + bytes.length < total then .xferSys else .idle := by
  induction bytes generalizing k u with
  | nil => exact ⟨u, rfl, by rw [hwaits hat, List.length_nil, Nat.add_zero, if_pos hk]⟩
  | cons b bytes ih =>
    rw [List.map_cons, execAll_cons_next _ (exec_feed b hopen (hwaits hat)), List.length_cons,
      ← Nat.add_assoc, Nat.add_right_comm]
    rcases Nat.lt_or_eq_of_le (Nat.succ_le_of_lt hk) with hmore | hend
    · exact ih (hnext b hat hmore) hmore (sysFeed_gateOpen b hopen)
    · have hidle := hlast b hat hend
      refine ⟨_, execAll_feeds_discarded bytes (by simp [hidle]), ?_⟩
      rw [hidle, if_neg (by omega)]

/-! ### Plain transfers -/

theorem AtPosition.withStaging {b₀ b : Blt} {k : Nat} (h : AtPosition b₀ k b) (buffer : BitVec 32) (count : Byte) :
    AtPosition b₀ k { b with systemBuffer := buffer, systemCount := count } where
  operands := { h.operands with }
  row := h.row
  column := h.column
  dest := h.dest

section
variable {b₀ : Blt} {k : Nat} {u : State}

theorem sysFeed_plain_next (b : Byte) (hplain : b₀.mode.getLsbD 7 = false) (hf : u.blt.fsm = .xferSys)
    (hat : AtPosition b₀ k u.blt) (hk : k + 1 < area b₀) :
    (sysFeed b u).blt.fsm = .xferSys ∧ AtPosition b₀ (k + 1) (sysFeed b u).blt := by
  obtain ⟨hf', hat'⟩ := hat.advance hk
  rw [sysFeed_plain_blt b (by rwa [hat.operands.mode])]
  exact ⟨hf'.trans hf, hat'.withStaging _ _⟩

theorem sysFeed_plain_last (b : Byte) (hplain : b₀.mode.getLsbD 7 = false) (hat : AtPosition b₀ k u.blt)
    (hk : k + 1 = area b₀) : (sysFeed b u).blt.fsm = .idle := by
  rw [sysFeed_plain_blt b (by rwa [hat.operands.mode]), hat.advance_last hk]

end

/-- Settles O38: each feed moves the transfer by one position. -/
theorem plainSystemTransferByteCount : Obligations.PlainSystemTransferByteCount := by
  intro d s bytes hstart hopen hw hh hsys hplain
  obtain ⟨t, hrun, hfsm⟩ := execAll_feeds_fsm (At := fun k u => u.blt.fsm = .xferSys ∧ AtPosition s.blt k u.blt)
    (fun ⟨hf, _⟩ => hf) (fun b ⟨hf, hat⟩ => sysFeed_plain_next b hplain hf hat)
    (fun b ⟨_, hat⟩ => sysFeed_plain_last b hplain hat) bytes
    (u := { s with blt := startedBlt s.blt .xferSys }) ⟨rfl, startedBlt_atPosition s.blt .xferSys⟩ (area_pos hw hh) hopen
  rw [Nat.zero_add] at hfsm
  exact ⟨t, (execAll_systemTransfer bytes hstart hw hh hsys).trans hrun, hfsm⟩

/-! ### The system transfer and the VRAM transfer of the same bytes -/

/-- The operands under which two transfers write the same bytes from the same source operands: the mode bytes may differ in
the form of the source, and the sources may (44_blt_engine.md R268). -/
structure SameDestination (b b' : Blt) : Prop where
  width : b'.width = b.width
  height : b'.height = b.height
  destPitch : b'.destPitch = b.destPitch
  dest : b'.dest = b.dest
  reverse : b'.mode.getLsbD 0 = b.mode.getLsbD 0
  transp : b'.mode.getLsbD 3 = b.mode.getLsbD 3
  rop : b'.rop = b.rop
  transColour : b'.transColour = b.transColour
  transColourMask : b'.transColourMask = b.transColourMask

namespace SameDestination

variable {b b' : Blt}

theorem area_eq (h : SameDestination b b') : area b' = area b := by
  unfold area
  rw [h.width, h.height]

theorem destAt_eq (h : SameDestination b b') (k : Nat) : destAt b' k = destAt b k := by
  simp only [destAt, destAddr, dirOf_eq, h.width, h.destPitch, h.dest, h.reverse]

theorem transparent_eq (h : SameDestination b b') (sb : Byte) : transparent b' sb = transparent b sb := by
  simp only [transparent, modeTransp, h.transp, h.transColour, h.transColourMask]

end SameDestination

section
variable {s v u : State} {k : Nat}

/-- A feed of the byte that pass `k` reads does to VRAM what pass `k` does. -/
theorem sysFeed_vram_eq_passes_succ {b : Byte} (hsame : SameDestination s.blt v.blt) (hplain : s.blt.mode.getLsbD 7 = false)
    (hk : k < area v.blt) (hat : AtPosition s.blt k u.blt) (hcfg : u.cfg = v.cfg) (hvram : u.vram = (passes k v).vram)
    (hb : operandAt v k = b) : (sysFeed b u).vram = (passes (k + 1) v).vram := by
  obtain ⟨-, hatv⟩ := passes_atPosition hk
  have htransp : transparent (passes k v).blt b = transparent u.blt b := by
    rw [transparent_congr hatv.operands, hsame.transparent_eq, transparent_congr hat.operands]
  have hdest : (passes k v).blt.destCurrent = u.blt.destCurrent := by rw [hatv.dest, hat.dest, hsame.destAt_eq]
  have hraster : liveRaster u = rop v.cfg.rops v.blt.rop := by rw [liveRaster, hcfg, hat.operands.rop, hsame.rop]
  rw [sysFeed_plain_vram b (by rwa [hat.operands.mode]), passes_succ_vram, commit_vram, commit_vram, hb, htransp, hdest,
    hraster, hvram, vramIndex, vramIndex, hcfg, passes_cfg]

/-- From position `k` on, feeding the bytes that the passes read gives the VRAM of all the passes. -/
theorem execAll_feeds_vram (hsame : SameDestination s.blt v.blt) (hplain : s.blt.mode.getLsbD 7 = false)
    (bytes : List Byte) (hat : k < area s.blt → u.blt.fsm = .xferSys ∧ AtPosition s.blt k u.blt)
    (hopen : GateOpen u .bltData) (hcfg : u.cfg = v.cfg) (hvram : u.vram = (passes k v).vram)
    (hlength : k + bytes.length = area s.blt) (hbytes : ∀ i b, bytes[i]? = some b → operandAt v (k + i) = b) :
    ∃ t, execAll (bytes.map .wBltData) u = some t ∧ t.vram = (passes (area s.blt) v).vram := by
  induction bytes generalizing k u with
  | nil => exact ⟨u, rfl, by rw [hvram, ← hlength]; rfl⟩
  | cons b bytes ih =>
    rw [List.length_cons] at hlength
    obtain ⟨hf, hat⟩ := hat (by omega)
    rw [List.map_cons, execAll_cons_next _ (exec_feed b hopen hf)]
    refine ih (k := k + 1) (fun hk => sysFeed_plain_next b hplain hf hat hk) (sysFeed_gateOpen b hopen)
      ((sysFeed_cfg b).trans hcfg) ?_ (by omega) fun i c hi => ?_
    · exact sysFeed_vram_eq_passes_succ hsame hplain (by rw [hsame.area_eq]; omega) hat hcfg hvram (hbytes 0 b rfl)
    · rw [Nat.add_assoc, Nat.add_comm 1]
      exact hbytes (i + 1) c hi

end

/-- Settles O40: the passes read the fed bytes, since no pass writes a source byte; so the two transfers make the same byte
operations. -/
theorem systemTransferEqualsVramTransfer : Obligations.SystemTransferEqualsVramTransfer := by
  intro d s v src bytes hstart hopen hw hh hsys hplain hv hlength hbytes hdisjoint
  have hmode (i : Nat) : v.blt.mode.getLsbD i = (s.blt.mode.getLsbD i && (0xBB : Byte).getLsbD i) := by
    rw [hv]
    exact BitVec.getLsbD_and
  have hsame : SameDestination s.blt v.blt := by
    constructor
    case reverse | transp =>
      rw [hmode]
      exact Bool.and_true _
    all_goals rw [hv]
  have hcfg : v.cfg = s.cfg := by rw [hv]
  have hmem : v.vram = s.vram := by rw [hv]
  have hstart' : Starts v d := by rw [hv]; exact hstart
  have hvram : v.blt.mode.getLsbD 2 = false := by rw [hmode]; exact Bool.and_false _
  have hpattern : v.blt.mode.getLsbD 6 = false := by rw [hmode]; exact Bool.and_false _
  have hexpand : v.blt.mode.getLsbD 7 = false := by rw [hmode, hplain]; rfl
  have hoperand (k : Nat) (b : Byte) (hb : bytes[k]? = some b) : operandAt v k = b := by
    have hk : k < area s.blt := hlength ▸ (List.getElem?_eq_some_iff.mp hb).1
    have hunwritten (j : Nat) (hj : j < k) : vramIndex v (destAt v.blt j) ≠ vramIndex v (srcAt v.blt k) := by
      rw [vramIndex, vramIndex, hcfg, hsame.destAt_eq]
      exact hdisjoint j k (hj.trans hk) hk
    rw [operandAt_plain_of_unwritten (hsame.area_eq ▸ hk) hexpand hpattern hunwritten, memRead_congr hmem hcfg]
    exact Option.some_inj.mp ((hbytes k hk).symm.trans hb)
  obtain ⟨u, hexec, -, hu, -⟩ := exec_start_vram hstart' hvram
  obtain ⟨t, hrun, ht⟩ := execAll_feeds_vram (k := 0) (u := { s with blt := startedBlt s.blt .xferSys }) hsame hplain bytes
    (fun _ => ⟨rfl, startedBlt_atPosition s.blt .xferSys⟩) hopen hcfg.symm hmem.symm (by rw [Nat.zero_add, hlength])
    (fun k b hb => by rw [Nat.zero_add]; exact hoperand k b hb)
  refine ⟨t, u, (execAll_systemTransfer bytes hstart hw hh hsys).trans hrun, hexec, ?_⟩
  rw [ht, hu, hsame.area_eq]

end Sys2Proof.Machine
end

section
/-! Colour expansion of fed bytes (44_blt_engine.md R266): a byte makes its pixel bytes as far as the row goes, and so a row takes
`ceil(ceil(w / bpp) / 8)` bytes. -/

namespace Sys2Proof.Machine

/-! ### The advance in a row -/

/-- The record `b'` is `m` positions further than `b`, in the same row. -/
structure FurtherInRow (b : Blt) (m : Nat) (b' : Blt) : Prop where
  operands : SameOperands b b'
  fsm : b'.fsm = b.fsm
  row : b'.scanCount = b.scanCount
  column : b'.pixelCount.toNat = b.pixelCount.toNat + m

/-- The record `b'` is where the advance from the last position of `b`'s row leads: at the start of the next row, or completed. -/
structure PastRow (b b' : Blt) : Prop where
  operands : SameOperands b b'
  fsm : b'.fsm = if b.height.toNat ≤ (b.scanCount + 1).toNat then .idle else b.fsm
  row : b'.scanCount = b.scanCount + 1
  column : b'.pixelCount.toNat = 0

section
variable {b b' : Blt} {m : Nat}

theorem FurtherInRow.withStaging (h : FurtherInRow b m b') (buffer : BitVec 32) (count : Byte) :
    FurtherInRow b m { b' with systemBuffer := buffer, systemCount := count } where
  operands := { h.operands with }
  fsm := h.fsm
  row := h.row
  column := h.column

theorem advanceBlt_furtherInRow (h : b.pixelCount.toNat + 1 < b.width.toNat) : FurtherInRow b 1 (advanceBlt b) := by
  have hx := toNat_succ_of_lt (Nat.lt_of_succ_lt h)
  have hoperands := (advanceBlt_onlyProgress b).sameOperands
  rcases advanceBlt_cases b with ⟨-, ha⟩ | ⟨hend, -⟩ | ⟨hend, -⟩
  · rw [ha] at hoperands ⊢
    exact ⟨hoperands, rfl, rfl, hx⟩
  · omega
  · omega

theorem advanceBlt_pastRow (h : b.pixelCount.toNat + 1 = b.width.toNat) : PastRow b (advanceBlt b) := by
  have hlt : b.pixelCount.toNat < b.width.toNat := by omega
  have hx := toNat_succ_of_lt hlt
  have hoperands := (advanceBlt_onlyProgress b).sameOperands
  rcases advanceBlt_cases b with ⟨hin, -⟩ | ⟨-, hmore, ha⟩ | ⟨-, hlast, ha⟩
  · omega
  · rw [ha] at hoperands ⊢
    exact ⟨hoperands, (if_neg (Nat.not_le_of_lt hmore)).symm, rfl, rfl⟩
  · rw [ha] at hoperands ⊢
    exact ⟨hoperands, (if_pos hlast).symm, rfl, rfl⟩

theorem advanceBlt_iterate_furtherInRow (h : b.pixelCount.toNat + m < b.width.toNat) :
    FurtherInRow b m (advanceBlt^[m] b) := by
  induction m with
  | zero => exact ⟨.refl b, rfl, rfl, rfl⟩
  | succ m ih =>
    have hat := ih (Nat.lt_of_succ_lt h)
    have hnext := advanceBlt_furtherInRow (b := advanceBlt^[m] b) (by rw [hat.column, hat.operands.width]; exact h)
    rw [Function.iterate_succ_apply']
    exact ⟨hat.operands.trans hnext.operands, hnext.fsm.trans hat.fsm, hnext.row.trans hat.row,
      by rw [hnext.column, hat.column, Nat.add_assoc]⟩

theorem advanceBlt_iterate_pastRow (h : b.pixelCount.toNat + (m + 1) = b.width.toNat) :
    PastRow b (advanceBlt^[m + 1] b) := by
  have hat := advanceBlt_iterate_furtherInRow (b := b) (m := m) (by omega)
  have hnext := advanceBlt_pastRow (b := advanceBlt^[m] b) (by rw [hat.column, hat.operands.width]; exact h)
  rw [Function.iterate_succ_apply']
  refine ⟨hat.operands.trans hnext.operands, ?_, by rw [hnext.row, hat.row], hnext.column⟩
  rw [hnext.fsm, hat.fsm, hat.row, hat.operands.height]

end

/-! ### The pixel bytes of a fed byte -/

/-- `m` byte operations on the colour bytes from number `n` on, each with its advance. -/
def colourPasses (colour : Nat → Byte) (n m : Nat) (s : State) : State :=
  (List.range' n m).foldl (fun u i => advance (commit (liveRaster u) (colour i) u)) s

theorem colourPasses_succ (colour : Nat → Byte) (n m : Nat) (s : State) : colourPasses colour n (m + 1) s =
    colourPasses colour (n + 1) m (advance (commit (liveRaster s) (colour n) s)) := rfl

theorem colourPasses_blt (colour : Nat → Byte) (n m : Nat) (s : State) :
    (colourPasses colour n m s).blt = advanceBlt^[m] s.blt := by
  induction m generalizing n s with
  | zero => rfl
  | succ m ih => rw [colourPasses_succ, ih, advance_blt, commit_blt, Function.iterate_succ_apply]

theorem bppOf_pos (mode : Byte) : 0 < bppOf mode := by
  unfold bppOf
  split <;> omega

theorem bppOf_le_two (mode : Byte) : bppOf mode ≤ 2 := by
  unfold bppOf
  split <;> omega

/-- The loop of `SysFeed` makes the byte's remaining pixel bytes, as far as the row goes. -/
theorem expandFeed_eq_colourPasses {b : Byte} {y0 : Word16} {fuel n m : Nat} {s : State} {colour : Nat → Byte}
    (hf : s.blt.fsm = .xferSys) (hy : s.blt.scanCount = y0) (hx : s.blt.pixelCount.toNat < s.blt.width.toNat)
    (hfuel : 8 * bppOf s.blt.mode ≤ n + fuel)
    (hm : m = min (8 * bppOf s.blt.mode - n) (s.blt.width.toNat - s.blt.pixelCount.toNat))
    (hcolour : ∀ i, n ≤ i → i < n + m →
      colour i = colourByte s.rf (pixelBit b (i / bppOf s.blt.mode)) (i % bppOf s.blt.mode)) :
    expandFeed b y0 fuel n s = colourPasses colour n m s := by
  induction fuel generalizing n m s with
  | zero =>
    obtain rfl : m = 0 := by omega
    rfl
  | succ fuel ih =>
    by_cases hn : n < 8 * bppOf s.blt.mode
    · obtain ⟨m, rfl⟩ : ∃ k, m = k + 1 := ⟨m - 1, by omega⟩
      rw [expandFeed_succ b y0 fuel n hn hf hy, ← hcolour n le_rfl (by omega), colourPasses_succ]
      generalize hs' : advance (commit (liveRaster s) (colour n) s) = s'
      have hblt : s'.blt = advanceBlt s.blt := by rw [← hs', advance_blt, commit_blt]
      have hrf : s'.rf = s.rf := by rw [← hs', advance_rf, commit_rf]
      by_cases hin : s.blt.pixelCount.toNat + 1 < s.blt.width.toNat
      · have hnext := advanceBlt_furtherInRow hin
        rw [← hblt] at hnext
        have hmode := hnext.operands.mode
        refine ih (hnext.fsm.trans hf) (hnext.row.trans hy) ?_ ?_ ?_ fun i hi hlt => ?_
        · rw [hnext.column, hnext.operands.width]
          exact hin
        · rw [hmode]
          omega
        · rw [hmode, hnext.column, hnext.operands.width]
          omega
        · rw [hmode, hrf]
          exact hcolour i (Nat.le_of_succ_le hi) (by omega)
      · have hnext := advanceBlt_pastRow (b := s.blt) (by omega)
        rw [← hblt] at hnext
        obtain rfl : m = 0 := by omega
        refine expandFeed_done b y0 fuel _ fun ⟨_, _, hrow⟩ => ?_
        rw [hnext.row, hy] at hrow
        bv_omega
    · obtain rfl : m = 0 := by omega
      exact expandFeed_done b y0 _ n fun ⟨hlt, _⟩ => hn hlt

/-- A feed in colour expansion: the pixel bytes that the row has room for, on the staged byte. -/
theorem sysFeed_expand {b : Byte} {s fed : State} {m : Nat} {colour : Nat → Byte} (hf : s.blt.fsm = .xferSys)
    (hexpand : s.blt.mode.getLsbD 7 = true) (hx : s.blt.pixelCount.toNat < s.blt.width.toNat)
    (hm : m = min (8 * bppOf s.blt.mode) (s.blt.width.toNat - s.blt.pixelCount.toNat))
    (hcolour : ∀ i, i < m → colour i = colourByte s.rf (pixelBit b (i / bppOf s.blt.mode)) (i % bppOf s.blt.mode))
    (hfed : fed = colourPasses colour 0 m (stageByte b s)) :
    sysFeed b s = { fed with blt := { fed.blt with systemCount := 0 } } := by
  obtain ⟨fed', he, ⟨-, hfed'⟩ | ⟨hplain, -⟩⟩ := sysFeed_cases b s
  · have hfuel : 8 * bppOf s.blt.mode ≤ 0 + 16 := by
      have := bppOf_le_two s.blt.mode
      omega
    have hloop := expandFeed_eq_colourPasses (s := stageByte b s) hf rfl hx hfuel hm fun i _ hi => hcolour i (by omega)
    rw [he, hfed', hfed]
    exact congrArg (fun u : State => { u with blt := { u.blt with systemCount := 0 } }) hloop
  · cases hplain.symm.trans hexpand

/-- Where the engine stands after the `m` pixel bytes that the row has room for. -/
theorem colourPasses_position {b : Byte} {s : State} {m : Nat} (colour : Nat → Byte)
    (hx : s.blt.pixelCount.toNat < s.blt.width.toNat)
    (hm : m = min (8 * bppOf s.blt.mode) (s.blt.width.toNat - s.blt.pixelCount.toNat)) :
    (s.blt.pixelCount.toNat + m < s.blt.width.toNat ∧
      FurtherInRow s.blt m (colourPasses colour 0 m (stageByte b s)).blt) ∨
    (s.blt.pixelCount.toNat + m = s.blt.width.toNat ∧ PastRow s.blt (colourPasses colour 0 m (stageByte b s)).blt) := by
  have hstaged : SameOperands s.blt (stageByte b s).blt := staging_sameOperands s.blt _ _
  have hpos := bppOf_pos s.blt.mode
  rw [colourPasses_blt]
  rcases Nat.lt_or_ge (s.blt.pixelCount.toNat + m) s.blt.width.toNat with hin | hend
  · have h := advanceBlt_iterate_furtherInRow (b := (stageByte b s).blt) hin
    exact .inl ⟨hin, hstaged.trans h.operands, h.fsm, h.row, h.column⟩
  · obtain ⟨m, rfl⟩ : ∃ k, m = k + 1 := ⟨m - 1, by omega⟩
    have hend' : s.blt.pixelCount.toNat + (m + 1) = s.blt.width.toNat := by omega
    have h := advanceBlt_iterate_pastRow (b := (stageByte b s).blt) hend'
    exact .inr ⟨hend', hstaged.trans h.operands, h.fsm, h.row, h.column⟩

/-- Settles O37: the loop is the pixel bytes that the row has room for. -/
theorem expandedFeedFillsTheRow : Obligations.ExpandedFeedFillsTheRow := by
  rintro d s hf hopen hexpand hx _ m staged fed colour rfl hcolour hm hstaged hfed
  have hpasses : fed = colourPasses colour 0 m (stageByte d s) := by
    rw [hfed, hstaged, List.range_eq_range']
    rfl
  have hselected (n : Nat) (hn : n < m) :
      colour n = colourByte s.rf (pixelBit d (n / bppOf s.blt.mode)) (n % bppOf s.blt.mode) :=
    (hcolour n hn).eq ((Nat.mod_lt _ (bppOf_pos s.blt.mode)).trans_le (bppOf_le_two s.blt.mode))
  rw [exec_feed d hopen hf, sysFeed_expand hf hexpand hx hm hselected hpasses]
  refine ⟨rfl, ?_⟩
  rcases colourPasses_position (b := d) colour hx hm with ⟨hin, h⟩ | ⟨hend, h⟩ <;> rw [← hpasses] at h
  · rw [if_pos hin, if_pos hin]
    exact ⟨h.column, h.row⟩
  · rw [if_neg hend.not_lt, if_neg hend.not_lt]
    exact ⟨h.column, h.row⟩

/-! ### The bytes of a transfer -/

/-- The record `b` waits for byte number `j` of the expanding transfer with the operands of `b₀`. -/
structure AtByte (b₀ : Blt) (j : Nat) (b : Blt) : Prop where
  fsm : b.fsm = .xferSys
  operands : SameOperands b₀ b
  row : b.scanCount.toNat = j / bytesPerRow b₀
  column : b.pixelCount.toNat = j % bytesPerRow b₀ * (8 * bppOf b₀.mode)

theorem lt_bytesPerRow_iff (b : Blt) (i : Nat) : i < bytesPerRow b ↔ i * (8 * bppOf b.mode) < b.width.toNat := by
  unfold bytesPerRow
  rw [← bppOf_eq]
  unfold bppOf
  split <;> omega

theorem bytesPerRow_pos {b : Blt} (h : 0 < b.width.toNat) : 0 < bytesPerRow b :=
  (lt_bytesPerRow_iff b 0).mpr (by rwa [Nat.zero_mul])

section
variable {b₀ : Blt} {j : Nat} {u : State}

/-- A feed moves an expanding transfer on in its row, or past its end with the row's last byte. -/
theorem sysFeed_expand_position (b : Byte) (hexpand : b₀.mode.getLsbD 7 = true) (hw : 0 < b₀.width.toNat)
    (hat : AtByte b₀ j u.blt) :
    (j % bytesPerRow b₀ + 1 < bytesPerRow b₀ ∧ FurtherInRow u.blt (8 * bppOf b₀.mode) (sysFeed b u).blt) ∨
    (bytesPerRow b₀ ≤ j % bytesPerRow b₀ + 1 ∧ PastRow u.blt (sysFeed b u).blt) := by
  have hx : u.blt.pixelCount.toNat < u.blt.width.toNat := by
    rw [hat.column, hat.operands.width, ← lt_bytesPerRow_iff]
    exact Nat.mod_lt j (bytesPerRow_pos hw)
  have hrow := lt_bytesPerRow_iff b₀ (j % bytesPerRow b₀ + 1)
  rw [Nat.succ_mul (j % bytesPerRow b₀), ← hat.column, ← hat.operands.width] at hrow
  obtain ⟨m, hm⟩ : ∃ m, m = min (8 * bppOf u.blt.mode) (u.blt.width.toNat - u.blt.pixelCount.toNat) := ⟨_, rfl⟩
  rw [sysFeed_expand hat.fsm (by rwa [hat.operands.mode]) hx hm (fun _ _ => rfl) rfl]
  rcases colourPasses_position (b := b) _ hx hm with ⟨hin, h⟩ | ⟨hend, h⟩ <;> rw [hat.operands.mode] at hm
  · obtain rfl : m = 8 * bppOf b₀.mode := by omega
    exact .inl ⟨hrow.mpr (by omega), h.withStaging _ 0⟩
  · exact .inr ⟨by omega, { h.operands with }, h.fsm, h.row, h.column⟩

theorem sysFeed_expand_next (b : Byte) (hexpand : b₀.mode.getLsbD 7 = true) (hw : 0 < b₀.width.toNat)
    (hat : AtByte b₀ j u.blt) (hj : j + 1 < b₀.height.toNat * bytesPerRow b₀) : AtByte b₀ (j + 1) (sysFeed b u).blt := by
  rcases sysFeed_expand_position b hexpand hw hat with ⟨hin, h⟩ | ⟨hend, h⟩
  · obtain ⟨hdiv, hmod⟩ := succ_div_mod_of_lt hin
    refine ⟨h.fsm.trans hat.fsm, hat.operands.trans h.operands, by rw [h.row, hat.row, hdiv], ?_⟩
    rw [h.column, hat.column, hmod, Nat.succ_mul (j % bytesPerRow b₀)]
  · obtain ⟨hdiv, hmod⟩ := succ_div_mod_of_le (bytesPerRow_pos hw) hend
    have hrows : (j + 1) / bytesPerRow b₀ < b₀.height.toNat := Nat.div_lt_of_lt_mul (by rwa [Nat.mul_comm])
    have hscan : u.blt.scanCount.toNat < b₀.height.toNat := by
      rw [hat.row]
      omega
    have hy := toNat_succ_of_lt hscan
    refine ⟨?_, hat.operands.trans h.operands, by rw [h.row, hy, hat.row, hdiv], by rw [h.column, hmod, Nat.zero_mul]⟩
    rw [h.fsm, hat.operands.height, if_neg (by rw [hy, hat.row]; omega), hat.fsm]

theorem sysFeed_expand_last (b : Byte) (hexpand : b₀.mode.getLsbD 7 = true) (hw : 0 < b₀.width.toNat)
    (hat : AtByte b₀ j u.blt) (hj : j + 1 = b₀.height.toNat * bytesPerRow b₀) : (sysFeed b u).blt.fsm = .idle := by
  have hpos := bytesPerRow_pos hw
  have hdiv : (j + 1) / bytesPerRow b₀ = b₀.height.toNat := by rw [hj, Nat.mul_div_cancel _ hpos]
  have hmod : (j + 1) % bytesPerRow b₀ = 0 := by rw [hj, Nat.mul_mod_left]
  rcases sysFeed_expand_position b hexpand hw hat with ⟨hin, h⟩ | ⟨hend, h⟩
  · obtain ⟨-, hmod'⟩ := succ_div_mod_of_lt hin
    omega
  · obtain ⟨hdiv', -⟩ := succ_div_mod_of_le hpos hend
    have hscan : u.blt.scanCount.toNat < b₀.height.toNat := by
      rw [hat.row]
      omega
    have hy := toNat_succ_of_lt hscan
    rw [h.fsm, hat.operands.height, if_pos (by rw [hy, hat.row]; omega)]

end

/-- Settles O39: each feed moves the transfer by one byte of its row. -/
theorem expandedSystemTransferByteCount : Obligations.ExpandedSystemTransferByteCount := by
  intro d s bytes hstart hopen hw hh hsys hexpand
  have hw' := toNat_pos_of_ne_zero hw
  have hstarted : AtByte s.blt 0 (startedBlt s.blt .xferSys) :=
    ⟨rfl, startedBlt_sameOperands s.blt .xferSys, (Nat.zero_div _).symm, by rw [Nat.zero_mod, Nat.zero_mul]; rfl⟩
  obtain ⟨t, hrun, hfsm⟩ := execAll_feeds_fsm (At := fun j u => AtByte s.blt j u.blt) AtByte.fsm
    (fun b hat hj => sysFeed_expand_next b hexpand hw' hat hj) (fun b hat hj => sysFeed_expand_last b hexpand hw' hat hj)
    bytes (u := { s with blt := startedBlt s.blt .xferSys }) hstarted
    (Nat.mul_pos (toNat_pos_of_ne_zero hh) (bytesPerRow_pos hw')) hopen
  rw [Nat.zero_add] at hfsm
  exact ⟨t, (execAll_systemTransfer bytes hstart hw hh hsys).trans hrun, hfsm⟩

end Sys2Proof.Machine
end

section
/-! The raster-operation function (45_blt_rops.md R306): the code's byte function where the variant implements the code, the
source operand everywhere else. -/

namespace Sys2Proof.Machine

/-- A code outside the table of sixteen has the byte function of the default (45_blt_rops.md R307). -/
theorem rasterOf_of_not_listed {code : Byte} (h : code ∉ Config.allRops) : rasterOf code = rasterDefault := by
  have hnumber := toNat_ne_of_not_contains (by simpa using h : Config.allRops.contains code = false)
  simp [rasterOf, Config.allRops, hnumber]

section
variable {rops : List Byte} {code : Byte} (S D : Byte)

theorem rop_of_implemented (h : code ∈ rops) : rop rops code S D = rasterOf code S D := by
  rw [rop, rasterIn_apply, if_pos h]

theorem rop_of_absent (h : code ∉ rops) : rop rops code S D = S := by
  rw [rop, rasterIn_apply, if_neg h]

theorem rop_of_not_listed (h : code ∉ Config.allRops) : rop rops code S D = S := by
  rw [rop, rasterIn_apply, rasterOf_of_not_listed h]
  exact ite_self S

end

/-- Settles O41: the default by the two reasons for it, and each implemented code by its entry in `rasterOf`. -/
theorem rasterFunctionTable : Obligations.RasterFunctionTable := by
  intro rops S D
  refine ⟨fun code hdefault => ?default, ?zero, ?and, ?nop, ?srcAndNotDst, ?notDst, ?copy, ?one, ?notSrcAndDst,
    ?xor, ?or, ?nor, ?xnor, ?srcOrNotDst, ?notSrc, ?notSrcOrDst, ?nand⟩
  case default => exact hdefault.elim (rop_of_absent S D) (rop_of_not_listed S D)
  case zero | and | nop | srcAndNotDst | notDst | copy | one | notSrcAndDst | xor | or | nor | xnor | srcOrNotDst | notSrc
      | notSrcOrDst | nand => exact rop_of_implemented S D

end Sys2Proof.Machine
end

section
/-! No synchronous exception (60_exceptions.md R320): every instruction and every step answers a next state. -/

namespace Sys2Proof.Machine

theorem exec_answersNext (i : Instr) (s : State) : ∃ t, exec i s = .next t := by
  obtain ⟨t, hexec, -⟩ := exec_effect i s
  exact ⟨t, hexec⟩

/-- A step executes the instruction it fetched, or needs none. -/
theorem step_answersNext (s : State) : ∃ t, step s = .next t := by
  cases hfetch : fetch s with
  | none => exact ⟨stepWithout s, step_of_fetch_none hfetch⟩
  | some fetched =>
    obtain ⟨code, u⟩ := fetched
    rw [step_of_fetch_some hfetch]
    exact exec_answersNext (decode code) u

/-- Settles O49: an instruction answers one of its effects, and a step is an instruction or `stepWithout`. -/
theorem everyStepAnswersNext : Obligations.EveryStepAnswersNext :=
  ⟨exec_answersNext, step_answersNext⟩

end Sys2Proof.Machine
end

section
/-! The device reset (70_reset_and_hazards.md R340..R342; 10_state.md R51): a pending reset is one step, and what the first reads
after it answer. -/

namespace Sys2Proof.Machine

/-! ### The step of a pending reset -/

theorem step_of_pending_reset {s : State} {rest : List HostEvent} (h : s.pending = .reset :: rest) :
    step s = .next (deviceReset (takeEvent rest s)) := by
  rw [step_of_fetch_none (fetch_reset h), stepWithout_reset h]

section
variable (c : Config)

theorem RegFile.reset_vclk_length :
    (RegFile.reset c).vclkNum.length = c.nVclk ∧ (RegFile.reset c).vclkDenom.length = c.nVclk := by
  simp [RegFile.reset]

/-- The clock bytes of a slot come from the parameter `VCLK_RESET` (10_state.md R15). -/
theorem RegFile.reset_vclk_getElem? {k : Nat} (hk : k < c.nVclk) :
    (RegFile.reset c).vclkNum[k]? = some (c.vclkReset.getD k (0, 0)).1 ∧
      (RegFile.reset c).vclkDenom[k]? = some (c.vclkReset.getD k (0, 0)).2 := by
  simp [RegFile.reset, hk]

end

/-- Settles O57: the step is the device reset of the state with the event taken; the clock bytes are tabulated from their
parameter, every other field is its reset value by definition. -/
theorem deviceResetStep : Obligations.DeviceResetStep := by
  intro s rest hpending
  obtain ⟨hnum, hdenom⟩ := RegFile.reset_vclk_length s.cfg
  refine ⟨_, step_of_pending_reset hpending, rfl, rfl, rfl, rfl, ⟨hnum, hdenom, fun k hk => ?clockBytes⟩, rfl, rfl, rfl, rfl⟩
  case clockBytes => exact RegFile.reset_vclk_getElem? s.cfg hk

/-! ### The first reads after a reset -/

/-- A default device is locked after its reset (70_reset_and_hazards.md R342). -/
theorem deviceReset_locked {u : State} (hcfg : u.cfg = Config.default) :
    (deviceReset u).rf.lockReg ≠ (deviceReset u).cfg.unlockKey := by
  rw [deviceReset_rf, deviceReset_cfg, hcfg]
  decide

/-- One access of the mask port after the reset of a default device does not wrap the hidden-DAC cycle. -/
theorem deviceReset_phase_not_last {u : State} (hcfg : u.cfg = Config.default) :
    (deviceReset u).hdac.phase + 1 ≠ (deviceReset u).cfg.hdacCycle := by
  rw [deviceReset_hdac, deviceReset_cfg, hcfg]
  decide

/-- Settles O56: the law of each read at the reset values of the fields it reads. -/
theorem firstObservationsAfterReset : Obligations.FirstObservationsAfterReset := by
  rintro u s o p hcfg rfl
  obtain ⟨-, -, hlockRule, -⟩ := lockRegister
  obtain ⟨-, hstatusRule⟩ := statusRead
  obtain ⟨⟨-, -, hbankRule⟩, -⟩ := bankRegisters
  obtain ⟨-, ⟨-, -, hropRule⟩, -⟩ := bltModeRopAndKeyRegisters
  obtain ⟨-, -, hmaskRule⟩ := maskPort
  refine ⟨?lock, ?status, ?bank, ?rop, ?mask, ?mem⟩
  case lock =>
    obtain ⟨-, hread⟩ := hlockRule 0 p (deviceReset u)
    rw [hread, if_neg (deviceReset_locked hcfg), deviceReset_cfg, hcfg]
    rfl
  case status => exact hstatusRule p (deviceReset u)
  case bank =>
    obtain ⟨-, -, hread⟩ := hbankRule 0 p (deviceReset u)
    exact hread
  case rop =>
    obtain ⟨-, -, hread⟩ := hropRule 0 p (deviceReset u)
    exact hread
  case mask =>
    obtain ⟨-, hread⟩ := hmaskRule 0 p (deviceReset u) { (deviceReset u).hdac with phase := 1 }
      (if_neg (deviceReset_phase_not_last hcfg)).symm
    exact hread
  case mem =>
    obtain ⟨-, -, hread, -⟩ := bankedAperture o 0 p (deviceReset u)
    have haddress : (deviceReset u).rf.bankRd.toNat * 0x10000 + o.toNat % 0x10000 = o.toNat % 0x10000 := by
      simp [RegFile.reset]
    rw [hread, haddress, memRead_congr (deviceReset_vram u) (deviceReset_cfg u)]

end Sys2Proof.Machine
end
